-- ==== Sys2Proof/Word.lean ====
section
/-! DEFINITION. The two widths of the machine: bytes and 16-bit words. -/

namespace Sys2Proof

/-- An 8-bit value: a general register, `f`, an opcode, a byte of memory (10_state.md R31, R32). -/
abbrev Byte := BitVec 8

/-- A 16-bit value: `pc`, `sp`, a register pair, an address (10_state.md R31, 20_memory.md R72). -/
abbrev Word := BitVec 16

end Sys2Proof
end

