-- ==== Sys2Proof/Machine/Bits.lean ====
section
/-! DEFINITION. Bytes of a word and words of two bytes (00_scope.md R12, R13). -/

namespace Sys2Proof

/-- `w[15:8]`. -/
def hiByte (w : Word) : Byte := w.extractLsb' 8 8

/-- `w[7:0]`. -/
def loByte (w : Word) : Byte := w.extractLsb' 0 8

/-- `(hi << 8) | lo`, the concatenation `hi ++ lo` (00_scope.md R12). -/
def mkWord (hi lo : Byte) : Word := hi ++ lo

/-- `zext_16(v)` (00_scope.md R12). -/
def zext16 (v : Byte) : Word := v.setWidth 16

/-- `sext_16(v)`, "defined for completeness" (00_scope.md R12); no instruction uses it. -/
def sext16 (v : Byte) : Word := v.signExtend 16

end Sys2Proof
end

