-- ==== Sys2Proof/Syntax.lean ====
section
/-! DEFINITION. The instructions: one constructor for each of the 91 implemented mnemonics of
spec/opcode_table.json, and one for its UNDEFINED rows (30_encoding.md R119, R120). -/

namespace Sys2Proof

/-- An instruction. `ldX_Y` is `LD X,Y`; `atP` is the byte of memory at P, so `ldA_atC` is `LD A,(C)` and `ldA_C`
is `LD A,C`. An operand `n` is the byte after the opcode and `nn` the two bytes after it, low byte first. -/
inductive Instr where
  /-- `NOP`, opcode 0x00 (R150). -/
  | nop
  /-- `LD BC,nn`, opcode 0x01 (R401). -/
  | ldBC_nn (nn : Word)
  /-- `LD (BC),A`, opcode 0x02 (R323). -/
  | ldAtBC_A
  /-- `LD B,n`, opcode 0x06 (R251). -/
  | ldB_n (n : Byte)
  /-- `LD A,(BC)`, opcode 0x0A (R321). -/
  | ldA_atBC
  /-- `LD C,n`, opcode 0x0E (R252). -/
  | ldC_n (n : Byte)
  /-- `LD DE,nn`, opcode 0x11 (R402). -/
  | ldDE_nn (nn : Word)
  /-- `LD (DE),A`, opcode 0x12 (R324). -/
  | ldAtDE_A
  /-- `LD D,n`, opcode 0x16 (R253). -/
  | ldD_n (n : Byte)
  /-- `LD A,(DE)`, opcode 0x1A (R322). -/
  | ldA_atDE
  /-- `LD E,n`, opcode 0x1E (R254). -/
  | ldE_n (n : Byte)
  /-- `LD HL,nn`, opcode 0x21 (R403). -/
  | ldHL_nn (nn : Word)
  /-- `LD (HL+),A`, opcode 0x22 (R331). -/
  | ldAtHLInc_A
  /-- `LD H,n`, opcode 0x26 (R255). -/
  | ldH_n (n : Byte)
  /-- `LD A,(HL+)`, opcode 0x2A (R332). -/
  | ldA_atHLInc
  /-- `LD L,n`, opcode 0x2E (R256). -/
  | ldL_n (n : Byte)
  /-- `LD SP,nn`, opcode 0x31 (R404). -/
  | ldSP_nn (nn : Word)
  /-- `LD (HL-),A`, opcode 0x32 (R333). -/
  | ldAtHLDec_A
  /-- `LD (HL),n`, opcode 0x36 (R318). -/
  | ldAtHL_n (n : Byte)
  /-- `LD A,(HL-)`, opcode 0x3A (R334). -/
  | ldA_atHLDec
  /-- `LD A,n`, opcode 0x3E (R257). -/
  | ldA_n (n : Byte)
  /-- `LD B,B`, opcode 0x40 (R201). -/
  | ldB_B
  /-- `LD B,C`, opcode 0x41 (R202). -/
  | ldB_C
  /-- `LD B,D`, opcode 0x42 (R203). -/
  | ldB_D
  /-- `LD B,E`, opcode 0x43 (R204). -/
  | ldB_E
  /-- `LD B,H`, opcode 0x44 (R205). -/
  | ldB_H
  /-- `LD B,L`, opcode 0x45 (R206). -/
  | ldB_L
  /-- `LD B,(HL)`, opcode 0x46 (R301). -/
  | ldB_atHL
  /-- `LD B,A`, opcode 0x47 (R207). -/
  | ldB_A
  /-- `LD C,B`, opcode 0x48 (R208). -/
  | ldC_B
  /-- `LD C,C`, opcode 0x49 (R209). -/
  | ldC_C
  /-- `LD C,D`, opcode 0x4A (R210). -/
  | ldC_D
  /-- `LD C,E`, opcode 0x4B (R211). -/
  | ldC_E
  /-- `LD C,H`, opcode 0x4C (R212). -/
  | ldC_H
  /-- `LD C,L`, opcode 0x4D (R213). -/
  | ldC_L
  /-- `LD C,(HL)`, opcode 0x4E (R302). -/
  | ldC_atHL
  /-- `LD C,A`, opcode 0x4F (R214). -/
  | ldC_A
  /-- `LD D,B`, opcode 0x50 (R215). -/
  | ldD_B
  /-- `LD D,C`, opcode 0x51 (R216). -/
  | ldD_C
  /-- `LD D,D`, opcode 0x52 (R217). -/
  | ldD_D
  /-- `LD D,E`, opcode 0x53 (R218). -/
  | ldD_E
  /-- `LD D,H`, opcode 0x54 (R219). -/
  | ldD_H
  /-- `LD D,L`, opcode 0x55 (R220). -/
  | ldD_L
  /-- `LD D,(HL)`, opcode 0x56 (R303). -/
  | ldD_atHL
  /-- `LD D,A`, opcode 0x57 (R221). -/
  | ldD_A
  /-- `LD E,B`, opcode 0x58 (R222). -/
  | ldE_B
  /-- `LD E,C`, opcode 0x59 (R223). -/
  | ldE_C
  /-- `LD E,D`, opcode 0x5A (R224). -/
  | ldE_D
  /-- `LD E,E`, opcode 0x5B (R225). -/
  | ldE_E
  /-- `LD E,H`, opcode 0x5C (R226). -/
  | ldE_H
  /-- `LD E,L`, opcode 0x5D (R227). -/
  | ldE_L
  /-- `LD E,(HL)`, opcode 0x5E (R304). -/
  | ldE_atHL
  /-- `LD E,A`, opcode 0x5F (R228). -/
  | ldE_A
  /-- `LD H,B`, opcode 0x60 (R229). -/
  | ldH_B
  /-- `LD H,C`, opcode 0x61 (R230). -/
  | ldH_C
  /-- `LD H,D`, opcode 0x62 (R231). -/
  | ldH_D
  /-- `LD H,E`, opcode 0x63 (R232). -/
  | ldH_E
  /-- `LD H,H`, opcode 0x64 (R233). -/
  | ldH_H
  /-- `LD H,L`, opcode 0x65 (R234). -/
  | ldH_L
  /-- `LD H,(HL)`, opcode 0x66 (R305). -/
  | ldH_atHL
  /-- `LD H,A`, opcode 0x67 (R235). -/
  | ldH_A
  /-- `LD L,B`, opcode 0x68 (R236). -/
  | ldL_B
  /-- `LD L,C`, opcode 0x69 (R237). -/
  | ldL_C
  /-- `LD L,D`, opcode 0x6A (R238). -/
  | ldL_D
  /-- `LD L,E`, opcode 0x6B (R239). -/
  | ldL_E
  /-- `LD L,H`, opcode 0x6C (R240). -/
  | ldL_H
  /-- `LD L,L`, opcode 0x6D (R241). -/
  | ldL_L
  /-- `LD L,(HL)`, opcode 0x6E (R306). -/
  | ldL_atHL
  /-- `LD L,A`, opcode 0x6F (R242). -/
  | ldL_A
  /-- `LD (HL),B`, opcode 0x70 (R311). -/
  | ldAtHL_B
  /-- `LD (HL),C`, opcode 0x71 (R312). -/
  | ldAtHL_C
  /-- `LD (HL),D`, opcode 0x72 (R313). -/
  | ldAtHL_D
  /-- `LD (HL),E`, opcode 0x73 (R314). -/
  | ldAtHL_E
  /-- `LD (HL),H`, opcode 0x74 (R315). -/
  | ldAtHL_H
  /-- `LD (HL),L`, opcode 0x75 (R316). -/
  | ldAtHL_L
  /-- `LD (HL),A`, opcode 0x77 (R317). -/
  | ldAtHL_A
  /-- `LD A,B`, opcode 0x78 (R243). -/
  | ldA_B
  /-- `LD A,C`, opcode 0x79 (R244). -/
  | ldA_C
  /-- `LD A,D`, opcode 0x7A (R245). -/
  | ldA_D
  /-- `LD A,E`, opcode 0x7B (R246). -/
  | ldA_E
  /-- `LD A,H`, opcode 0x7C (R247). -/
  | ldA_H
  /-- `LD A,L`, opcode 0x7D (R248). -/
  | ldA_L
  /-- `LD A,(HL)`, opcode 0x7E (R307). -/
  | ldA_atHL
  /-- `LD A,A`, opcode 0x7F (R249). -/
  | ldA_A
  /-- `LDH (n),A`, opcode 0xE0 (R330). -/
  | ldhAtN_A (n : Byte)
  /-- `LD (C),A`, opcode 0xE2 (R328). -/
  | ldAtC_A
  /-- `LD (nn),A`, opcode 0xEA (R326). -/
  | ldAtNN_A (nn : Word)
  /-- `LDH A,(n)`, opcode 0xF0 (R329). -/
  | ldhA_atN (n : Byte)
  /-- `LD A,(C)`, opcode 0xF2 (R327). -/
  | ldA_atC
  /-- `LD SP,HL`, opcode 0xF9 (R405). -/
  | ldSP_HL
  /-- `LD A,(nn)`, opcode 0xFA (R325). -/
  | ldA_atNN (nn : Word)
  /-- An Undefined slot, with its opcode byte (R120, R142, R501). -/
  | undefined (opcode : Byte)
  deriving DecidableEq, Repr

end Sys2Proof
end

