-- ==== Sys2Proof/WellFormed.lean ====
section
/-! DEFINITION. Which terms of `Instr` are instructions of the hardware. Every operand has the exact width of its
bytes, so the one thing to check is that an `undefined` term carries the opcode of an Undefined slot (R120). -/

namespace Sys2Proof

/-- The 165 Undefined slots, as 30_encoding.md R120 lists them. -/
def undefinedOpcodes : List Nat :=
  [0x03, 0x04, 0x05, 0x07, 0x08, 0x09, 0x0B, 0x0C, 0x0D, 0x0F, 0x10, 0x13] ++
  [0x14, 0x15, 0x17, 0x18, 0x19, 0x1B, 0x1C, 0x1D, 0x1F, 0x20, 0x23, 0x24] ++
  [0x25, 0x27, 0x28, 0x29, 0x2B, 0x2C, 0x2D, 0x2F, 0x30, 0x33, 0x34, 0x35] ++
  [0x37, 0x38, 0x39, 0x3B, 0x3C, 0x3D, 0x3F, 0x76, 0x80, 0x81, 0x82, 0x83] ++
  [0x84, 0x85, 0x86, 0x87, 0x88, 0x89, 0x8A, 0x8B, 0x8C, 0x8D, 0x8E, 0x8F] ++
  [0x90, 0x91, 0x92, 0x93, 0x94, 0x95, 0x96, 0x97, 0x98, 0x99, 0x9A, 0x9B] ++
  [0x9C, 0x9D, 0x9E, 0x9F, 0xA0, 0xA1, 0xA2, 0xA3, 0xA4, 0xA5, 0xA6, 0xA7] ++
  [0xA8, 0xA9, 0xAA, 0xAB, 0xAC, 0xAD, 0xAE, 0xAF, 0xB0, 0xB1, 0xB2, 0xB3] ++
  [0xB4, 0xB5, 0xB6, 0xB7, 0xB8, 0xB9, 0xBA, 0xBB, 0xBC, 0xBD, 0xBE, 0xBF] ++
  [0xC0, 0xC1, 0xC2, 0xC3, 0xC4, 0xC5, 0xC6, 0xC7, 0xC8, 0xC9, 0xCA, 0xCB] ++
  [0xCC, 0xCD, 0xCE, 0xCF, 0xD0, 0xD1, 0xD2, 0xD3, 0xD4, 0xD5, 0xD6, 0xD7] ++
  [0xD8, 0xD9, 0xDA, 0xDB, 0xDC, 0xDD, 0xDE, 0xDF, 0xE1, 0xE3, 0xE4, 0xE5] ++
  [0xE6, 0xE7, 0xE8, 0xE9, 0xEB, 0xEC, 0xED, 0xEE, 0xEF, 0xF1, 0xF3, 0xF4] ++
  [0xF5, 0xF6, 0xF7, 0xF8, 0xFB, 0xFC, 0xFD, 0xFE, 0xFF]

/-- A well-formed instruction. -/
def Instr.wf : Instr → Bool
  | .nop => true
  | .ldBC_nn _ => true
  | .ldAtBC_A => true
  | .ldB_n _ => true
  | .ldA_atBC => true
  | .ldC_n _ => true
  | .ldDE_nn _ => true
  | .ldAtDE_A => true
  | .ldD_n _ => true
  | .ldA_atDE => true
  | .ldE_n _ => true
  | .ldHL_nn _ => true
  | .ldAtHLInc_A => true
  | .ldH_n _ => true
  | .ldA_atHLInc => true
  | .ldL_n _ => true
  | .ldSP_nn _ => true
  | .ldAtHLDec_A => true
  | .ldAtHL_n _ => true
  | .ldA_atHLDec => true
  | .ldA_n _ => true
  | .ldB_B => true
  | .ldB_C => true
  | .ldB_D => true
  | .ldB_E => true
  | .ldB_H => true
  | .ldB_L => true
  | .ldB_atHL => true
  | .ldB_A => true
  | .ldC_B => true
  | .ldC_C => true
  | .ldC_D => true
  | .ldC_E => true
  | .ldC_H => true
  | .ldC_L => true
  | .ldC_atHL => true
  | .ldC_A => true
  | .ldD_B => true
  | .ldD_C => true
  | .ldD_D => true
  | .ldD_E => true
  | .ldD_H => true
  | .ldD_L => true
  | .ldD_atHL => true
  | .ldD_A => true
  | .ldE_B => true
  | .ldE_C => true
  | .ldE_D => true
  | .ldE_E => true
  | .ldE_H => true
  | .ldE_L => true
  | .ldE_atHL => true
  | .ldE_A => true
  | .ldH_B => true
  | .ldH_C => true
  | .ldH_D => true
  | .ldH_E => true
  | .ldH_H => true
  | .ldH_L => true
  | .ldH_atHL => true
  | .ldH_A => true
  | .ldL_B => true
  | .ldL_C => true
  | .ldL_D => true
  | .ldL_E => true
  | .ldL_H => true
  | .ldL_L => true
  | .ldL_atHL => true
  | .ldL_A => true
  | .ldAtHL_B => true
  | .ldAtHL_C => true
  | .ldAtHL_D => true
  | .ldAtHL_E => true
  | .ldAtHL_H => true
  | .ldAtHL_L => true
  | .ldAtHL_A => true
  | .ldA_B => true
  | .ldA_C => true
  | .ldA_D => true
  | .ldA_E => true
  | .ldA_H => true
  | .ldA_L => true
  | .ldA_atHL => true
  | .ldA_A => true
  | .ldhAtN_A _ => true
  | .ldAtC_A => true
  | .ldAtNN_A _ => true
  | .ldhA_atN _ => true
  | .ldA_atC => true
  | .ldSP_HL => true
  | .ldA_atNN _ => true
  | .undefined opcode => undefinedOpcodes.contains opcode.toNat

end Sys2Proof
end

