-- ==== Sys2Proof/Decode.lean ====
section
/-! DEFINITION. The decoder and, after it, the encoder. The decoder follows the per-opcode table (30_encoding.md
R119, opcode_table.json); the encoder follows the bit fields of the opcode byte (R114, R115), so that their agreement
says something. -/

namespace Sys2Proof

/-- One slot of the Operation Table, a tagged variant (30_encoding.md R124): an implemented instruction of format F1,
F2 or F3 (R112), waiting for its operand bytes, or an Undefined slot. -/
inductive Slot where
  | f1 (i : Instr)
  | f2 (withByte : Byte → Instr)
  | f3 (withWord : Word → Instr)
  | undefinedSlot

/-- Rows 0x0 to 0x3 of the opcode map (R118, R119). -/
def rowsImmediate : List (Nat × Slot) :=
  [(0x00, .f1 .nop), (0x01, .f3 .ldBC_nn), (0x02, .f1 .ldAtBC_A), (0x06, .f2 .ldB_n)] ++
  [(0x0A, .f1 .ldA_atBC), (0x0E, .f2 .ldC_n), (0x11, .f3 .ldDE_nn), (0x12, .f1 .ldAtDE_A)] ++
  [(0x16, .f2 .ldD_n), (0x1A, .f1 .ldA_atDE), (0x1E, .f2 .ldE_n), (0x21, .f3 .ldHL_nn)] ++
  [(0x22, .f1 .ldAtHLInc_A), (0x26, .f2 .ldH_n), (0x2A, .f1 .ldA_atHLInc), (0x2E, .f2 .ldL_n)] ++
  [(0x31, .f3 .ldSP_nn), (0x32, .f1 .ldAtHLDec_A), (0x36, .f2 .ldAtHL_n), (0x3A, .f1 .ldA_atHLDec)] ++
  [(0x3E, .f2 .ldA_n)]

/-- Row 0x4 of the opcode map (R118, R119). -/
def rowsBC : List (Nat × Slot) :=
  [(0x40, .f1 .ldB_B), (0x41, .f1 .ldB_C), (0x42, .f1 .ldB_D), (0x43, .f1 .ldB_E)] ++
  [(0x44, .f1 .ldB_H), (0x45, .f1 .ldB_L), (0x46, .f1 .ldB_atHL), (0x47, .f1 .ldB_A)] ++
  [(0x48, .f1 .ldC_B), (0x49, .f1 .ldC_C), (0x4A, .f1 .ldC_D), (0x4B, .f1 .ldC_E)] ++
  [(0x4C, .f1 .ldC_H), (0x4D, .f1 .ldC_L), (0x4E, .f1 .ldC_atHL), (0x4F, .f1 .ldC_A)]

/-- Row 0x5 of the opcode map (R118, R119). -/
def rowsDE : List (Nat × Slot) :=
  [(0x50, .f1 .ldD_B), (0x51, .f1 .ldD_C), (0x52, .f1 .ldD_D), (0x53, .f1 .ldD_E)] ++
  [(0x54, .f1 .ldD_H), (0x55, .f1 .ldD_L), (0x56, .f1 .ldD_atHL), (0x57, .f1 .ldD_A)] ++
  [(0x58, .f1 .ldE_B), (0x59, .f1 .ldE_C), (0x5A, .f1 .ldE_D), (0x5B, .f1 .ldE_E)] ++
  [(0x5C, .f1 .ldE_H), (0x5D, .f1 .ldE_L), (0x5E, .f1 .ldE_atHL), (0x5F, .f1 .ldE_A)]

/-- Row 0x6 of the opcode map (R118, R119). -/
def rowsHL : List (Nat × Slot) :=
  [(0x60, .f1 .ldH_B), (0x61, .f1 .ldH_C), (0x62, .f1 .ldH_D), (0x63, .f1 .ldH_E)] ++
  [(0x64, .f1 .ldH_H), (0x65, .f1 .ldH_L), (0x66, .f1 .ldH_atHL), (0x67, .f1 .ldH_A)] ++
  [(0x68, .f1 .ldL_B), (0x69, .f1 .ldL_C), (0x6A, .f1 .ldL_D), (0x6B, .f1 .ldL_E)] ++
  [(0x6C, .f1 .ldL_H), (0x6D, .f1 .ldL_L), (0x6E, .f1 .ldL_atHL), (0x6F, .f1 .ldL_A)]

/-- Row 0x7 of the opcode map (R118, R119). -/
def rowsMemA : List (Nat × Slot) :=
  [(0x70, .f1 .ldAtHL_B), (0x71, .f1 .ldAtHL_C), (0x72, .f1 .ldAtHL_D), (0x73, .f1 .ldAtHL_E)] ++
  [(0x74, .f1 .ldAtHL_H), (0x75, .f1 .ldAtHL_L), (0x77, .f1 .ldAtHL_A), (0x78, .f1 .ldA_B)] ++
  [(0x79, .f1 .ldA_C), (0x7A, .f1 .ldA_D), (0x7B, .f1 .ldA_E), (0x7C, .f1 .ldA_H)] ++
  [(0x7D, .f1 .ldA_L), (0x7E, .f1 .ldA_atHL), (0x7F, .f1 .ldA_A)]

/-- Rows 0xE and 0xF of the opcode map (R118, R119). -/
def rowsPage : List (Nat × Slot) :=
  [(0xE0, .f2 .ldhAtN_A), (0xE2, .f1 .ldAtC_A), (0xEA, .f3 .ldAtNN_A), (0xF0, .f2 .ldhA_atN)] ++
  [(0xF2, .f1 .ldA_atC), (0xF9, .f1 .ldSP_HL), (0xFA, .f3 .ldA_atNN)]

/-- The 91 implemented slots. -/
def implementedRows : List (Nat × Slot) :=
  rowsImmediate ++ rowsBC ++ rowsDE ++ rowsHL ++ rowsMemA ++ rowsPage

/-- The slot a list of rows gives an opcode: a row has mask 0xFF, so it matches its own opcode only (R124). -/
def findSlot : List (Nat × Slot) → Nat → Slot
  | [], _ => .undefinedSlot
  | (opcode, slot) :: rest, op => if opcode = op then slot else findSlot rest op

/-- The Operation Table: 256 slots, a constant of the hardware (10_state.md R47, 30_encoding.md R118 to R124). -/
def slotOf (op : Byte) : Slot := findSlot implementedRows op.toNat

/-- Whether a slot holds an operation. -/
def Slot.isImplemented : Slot → Bool
  | .f1 _ => true
  | .f2 _ => true
  | .f3 _ => true
  | .undefinedSlot => false

/-- The length in bytes that an opcode alone determines; an Undefined opcode has length 1 (R113). -/
def Slot.length : Slot → Nat
  | .f1 _ => 1
  | .f2 _ => 2
  | .f3 _ => 3
  | .undefinedSlot => 1

/-- Why a list of bytes gives no instruction. -/
inductive DecodeError where
  /-- The list is empty. -/
  | noOpcode
  /-- The list ends before the operand bytes of this opcode. -/
  | missingOperand (opcode : Byte)
  deriving DecidableEq, Repr

/-- What the decoder answers: an instruction with the bytes after it, or the reason there is none. -/
inductive Decoded where
  | ok (i : Instr) (rest : List Byte)
  | rejected (e : DecodeError)
  deriving DecidableEq, Repr

/-- Decode the bytes after an opcode, by its slot; `nn` is low byte first (R112, R116). -/
def decodeOperands (op : Byte) : Slot → List Byte → Decoded
  | .undefinedSlot, rest => .ok (.undefined op) rest
  | .f1 i, rest => .ok i rest
  | .f2 withByte, n :: rest => .ok (withByte n) rest
  | .f2 _, [] => .rejected (.missingOperand op)
  | .f3 withWord, lo :: hi :: rest => .ok (withWord (mkWord hi lo)) rest
  | .f3 _, [_] => .rejected (.missingOperand op)
  | .f3 _, [] => .rejected (.missingOperand op)

/-- Decode the instruction at the head of a list of bytes (R111 to R113, R124). -/
def decode : List Byte → Decoded
  | [] => .rejected .noOpcode
  | op :: rest => decodeOperands op (slotOf op) rest

/-- The instruction of a decoding, if there is one. -/
def Decoded.instr? : Decoded → Option Instr
  | .ok i _ => some i
  | .rejected _ => none

/-- The bytes of a table word: byte k is bits 8k+7 to 8k, and the bits from `nbits` up are zero. Three bytes are the
longest instruction (R112). -/
def tableWordBytes (nbits w : Nat) : List Byte :=
  let v := w % 2 ^ nbits
  [BitVec.ofNat 8 v, BitVec.ofNat 8 (v / 2 ^ 8), BitVec.ofNat 8 (v / 2 ^ 16)]

/-- The instruction the decoder reads from a word numbered as spec/opcode_table.json numbers it. -/
def decodeTableWord (nbits w : Nat) : Option Instr := (decode (tableWordBytes nbits w)).instr?

/-! The encoder. -/

namespace Code

/-- Register code of `b` (R114). -/
def b : BitVec 3 := 0b000
/-- Register code of `c` (R114). -/
def c : BitVec 3 := 0b001
/-- Register code of `d` (R114). -/
def d : BitVec 3 := 0b010
/-- Register code of `e` (R114). -/
def e : BitVec 3 := 0b011
/-- Register code of `h` (R114). -/
def h : BitVec 3 := 0b100
/-- Register code of `l` (R114). -/
def l : BitVec 3 := 0b101
/-- The code of the byte of memory at `hl` (R114). -/
def atHL : BitVec 3 := 0b110
/-- Register code of `a` (R114). -/
def a : BitVec 3 := 0b111
/-- Pair code of `bc` (R115). -/
def bc : BitVec 2 := 0b00
/-- Pair code of `de` (R115). -/
def de : BitVec 2 := 0b01
/-- Pair code of `hl` in the 16-bit immediate loads (R115). -/
def hl : BitVec 2 := 0b10
/-- Pair code of `sp` in the 16-bit immediate loads (R115). -/
def sp : BitVec 2 := 0b11
/-- Pair code of `(hl)` then increment (R115). -/
def hlInc : BitVec 2 := 0b10
/-- Pair code of `(hl)` then decrement (R115). -/
def hlDec : BitVec 2 := 0b11

end Code

/-- `01 ddd sss` (R114). -/
def opRegReg (ddd sss : BitVec 3) : Byte := 0b01#2 ++ ddd ++ sss

/-- `00 ddd 110` (R114). -/
def opRegImm (ddd : BitVec 3) : Byte := 0b00#2 ++ ddd ++ 0b110#3

/-- `00 pp 0001` (R115). -/
def opPairImm (pp : BitVec 2) : Byte := 0b00#2 ++ pp ++ 0b0001#4

/-- `00 pp 0010` (R115). -/
def opAccStore (pp : BitVec 2) : Byte := 0b00#2 ++ pp ++ 0b0010#4

/-- `00 pp 1010` (R115). -/
def opAccLoad (pp : BitVec 2) : Byte := 0b00#2 ++ pp ++ 0b1010#4

/-- The bytes of a well-formed instruction, in address order (R112, R114, R115, R116). -/
def encode : Instr → List Byte
  | .nop => [0x00]
  | .ldBC_nn nn => [opPairImm Code.bc, loByte nn, hiByte nn]
  | .ldAtBC_A => [opAccStore Code.bc]
  | .ldB_n n => [opRegImm Code.b, n]
  | .ldA_atBC => [opAccLoad Code.bc]
  | .ldC_n n => [opRegImm Code.c, n]
  | .ldDE_nn nn => [opPairImm Code.de, loByte nn, hiByte nn]
  | .ldAtDE_A => [opAccStore Code.de]
  | .ldD_n n => [opRegImm Code.d, n]
  | .ldA_atDE => [opAccLoad Code.de]
  | .ldE_n n => [opRegImm Code.e, n]
  | .ldHL_nn nn => [opPairImm Code.hl, loByte nn, hiByte nn]
  | .ldAtHLInc_A => [opAccStore Code.hlInc]
  | .ldH_n n => [opRegImm Code.h, n]
  | .ldA_atHLInc => [opAccLoad Code.hlInc]
  | .ldL_n n => [opRegImm Code.l, n]
  | .ldSP_nn nn => [opPairImm Code.sp, loByte nn, hiByte nn]
  | .ldAtHLDec_A => [opAccStore Code.hlDec]
  | .ldAtHL_n n => [opRegImm Code.atHL, n]
  | .ldA_atHLDec => [opAccLoad Code.hlDec]
  | .ldA_n n => [opRegImm Code.a, n]
  | .ldB_B => [opRegReg Code.b Code.b]
  | .ldB_C => [opRegReg Code.b Code.c]
  | .ldB_D => [opRegReg Code.b Code.d]
  | .ldB_E => [opRegReg Code.b Code.e]
  | .ldB_H => [opRegReg Code.b Code.h]
  | .ldB_L => [opRegReg Code.b Code.l]
  | .ldB_atHL => [opRegReg Code.b Code.atHL]
  | .ldB_A => [opRegReg Code.b Code.a]
  | .ldC_B => [opRegReg Code.c Code.b]
  | .ldC_C => [opRegReg Code.c Code.c]
  | .ldC_D => [opRegReg Code.c Code.d]
  | .ldC_E => [opRegReg Code.c Code.e]
  | .ldC_H => [opRegReg Code.c Code.h]
  | .ldC_L => [opRegReg Code.c Code.l]
  | .ldC_atHL => [opRegReg Code.c Code.atHL]
  | .ldC_A => [opRegReg Code.c Code.a]
  | .ldD_B => [opRegReg Code.d Code.b]
  | .ldD_C => [opRegReg Code.d Code.c]
  | .ldD_D => [opRegReg Code.d Code.d]
  | .ldD_E => [opRegReg Code.d Code.e]
  | .ldD_H => [opRegReg Code.d Code.h]
  | .ldD_L => [opRegReg Code.d Code.l]
  | .ldD_atHL => [opRegReg Code.d Code.atHL]
  | .ldD_A => [opRegReg Code.d Code.a]
  | .ldE_B => [opRegReg Code.e Code.b]
  | .ldE_C => [opRegReg Code.e Code.c]
  | .ldE_D => [opRegReg Code.e Code.d]
  | .ldE_E => [opRegReg Code.e Code.e]
  | .ldE_H => [opRegReg Code.e Code.h]
  | .ldE_L => [opRegReg Code.e Code.l]
  | .ldE_atHL => [opRegReg Code.e Code.atHL]
  | .ldE_A => [opRegReg Code.e Code.a]
  | .ldH_B => [opRegReg Code.h Code.b]
  | .ldH_C => [opRegReg Code.h Code.c]
  | .ldH_D => [opRegReg Code.h Code.d]
  | .ldH_E => [opRegReg Code.h Code.e]
  | .ldH_H => [opRegReg Code.h Code.h]
  | .ldH_L => [opRegReg Code.h Code.l]
  | .ldH_atHL => [opRegReg Code.h Code.atHL]
  | .ldH_A => [opRegReg Code.h Code.a]
  | .ldL_B => [opRegReg Code.l Code.b]
  | .ldL_C => [opRegReg Code.l Code.c]
  | .ldL_D => [opRegReg Code.l Code.d]
  | .ldL_E => [opRegReg Code.l Code.e]
  | .ldL_H => [opRegReg Code.l Code.h]
  | .ldL_L => [opRegReg Code.l Code.l]
  | .ldL_atHL => [opRegReg Code.l Code.atHL]
  | .ldL_A => [opRegReg Code.l Code.a]
  | .ldAtHL_B => [opRegReg Code.atHL Code.b]
  | .ldAtHL_C => [opRegReg Code.atHL Code.c]
  | .ldAtHL_D => [opRegReg Code.atHL Code.d]
  | .ldAtHL_E => [opRegReg Code.atHL Code.e]
  | .ldAtHL_H => [opRegReg Code.atHL Code.h]
  | .ldAtHL_L => [opRegReg Code.atHL Code.l]
  | .ldAtHL_A => [opRegReg Code.atHL Code.a]
  | .ldA_B => [opRegReg Code.a Code.b]
  | .ldA_C => [opRegReg Code.a Code.c]
  | .ldA_D => [opRegReg Code.a Code.d]
  | .ldA_E => [opRegReg Code.a Code.e]
  | .ldA_H => [opRegReg Code.a Code.h]
  | .ldA_L => [opRegReg Code.a Code.l]
  | .ldA_atHL => [opRegReg Code.a Code.atHL]
  | .ldA_A => [opRegReg Code.a Code.a]
  | .ldhAtN_A n => [0xE0, n]
  | .ldAtC_A => [0xE2]
  | .ldAtNN_A nn => [0xEA, loByte nn, hiByte nn]
  | .ldhA_atN n => [0xF0, n]
  | .ldA_atC => [0xF2]
  | .ldSP_HL => [0xF9]
  | .ldA_atNN nn => [0xFA, loByte nn, hiByte nn]
  | .undefined opcode => [opcode]

end Sys2Proof
end

