-- ==== Sys2Proof/Config.lean ====
section
/-! DEFINITION. What the hardware fixes, and the parameters the spec leaves open (00_scope.md R10, R11). -/

namespace Sys2Proof

/-- One bus transaction, with the value it carried (20_memory.md R90). The Bus cannot tell a fetch from a data
read, so neither can this type. -/
inductive Transaction where
  /-- `Rd(addr) -> v`. -/
  | rd (addr : Word) (v : Byte)
  /-- `Wr(addr, v)`. -/
  | wr (addr : Word) (v : Byte)
  deriving DecidableEq, Repr

/-- The parameter `FLAG_LAYOUT`: where the four conventional flags stand in `f` (10_state.md R40, D10). -/
structure FlagLayout where
  zero : Fin 8
  subtract : Fin 8
  halfCarry : Fin 8
  carry : Fin 8
  deriving DecidableEq, Repr, Inhabited

namespace Config

/-- The base of the fixed I/O page (00_scope.md R10). -/
def fixedPageBase : Word := 0xFF00

/-- Ticks per machine cycle (00_scope.md R10, 40_dispatch.md R143). -/
def ticksPerMachineCycle : Nat := 4

/-- What an address that the memory does not list reads as. DESIGN CHOICE (log 5): the spec gives no power-on
contents; its test programs take zero (95_test_vectors.md section 4). -/
def unlistedByte : Byte := 0x00

/-- What a device, or an unmapped address whose value the map does not fix, answers to a read: any function of the
transactions issued before it and the address. It is a free value (20_memory.md R73, R81, D9; log 6). -/
opaque busAnswer : List Transaction → Word → Byte

/-- `FLAG_LAYOUT`, an open parameter read by no instruction (10_state.md R40, D10; log 10). -/
opaque flagLayout : FlagLayout

end Config

end Sys2Proof
end

