-- ==== Sys2Proof/Machine/State.lean ====
section
/-! DEFINITION. The state of the machine as plain data, the reasons a step can stop, and the state after reset. -/

namespace Sys2Proof.Machine

/-- The eight 8-bit registers by name (10_state.md R31). -/
inductive Reg8 where
  | a | b | c | d | e | h | l | f
  deriving DecidableEq, Repr

/-- The three register pairs (10_state.md R35). "No other pair (for example `af`) is defined." -/
inductive Pair where
  | bc | de | hl
  deriving DecidableEq, Repr

/-- The run mode (10_state.md R45). -/
inductive Mode where
  | running | halted
  deriving DecidableEq, Repr

/-- Whether the core has been reset since it was constructed (10_state.md R50, D11; log 9). -/
inductive Phase where
  /-- No register or counter holds a value yet, and a read of one faults. -/
  | constructed
  /-- The core has been reset. -/
  | ready
  deriving DecidableEq, Repr

/-- How the Bus treats the addresses of a region (20_memory.md R73, R74, R81; log 7). -/
inductive RegionKind where
  /-- A read returns the last byte written, or the initial contents. -/
  | ram
  /-- A read returns the contents; a write is ignored. -/
  | rom
  /-- A read returns this value, "typically 0xFF or open-bus value"; a write is ignored. -/
  | fixed (v : Byte)
  /-- Memory-mapped I/O, or an unmapped address of open policy: a read answers a free value, which may depend on
  every earlier transaction; a write changes no byte of memory. -/
  | device
  deriving DecidableEq, Repr

/-- A region of the address space: `size` addresses from `base` on. -/
structure Region where
  base : Nat
  size : Nat
  kind : RegionKind
  deriving DecidableEq, Repr

/-- The contents of the memory behind the Bus: cells by rising address, none equal to `Config.unlistedByte`
(`Memory.wf`). -/
abbrev Memory := List Host.Cell

/-- The parameter `Bus` as plain data (20_memory.md R71, 00_scope.md R11, D9; log 4). An address takes the kind of the
first region of `map` that covers it, and RAM where none does, so the empty map is the reference memory of D9. -/
structure Bus where
  mem : Memory
  map : List Region
  /-- Every transaction so far, newest first (R81, R90). -/
  trace : List Transaction
  deriving DecidableEq, Repr

/-- What the IllegalOpcode condition records (60_exceptions.md R501, D12). -/
structure IllegalOpcode where
  opcode : Byte
  pc0 : Word
  deriving DecidableEq, Repr

/-- What a `step()` returns to the host (40_dispatch.md R144, 60_exceptions.md R501, R512). -/
inductive StepResult where
  /-- The cost in machine cycles (D24). -/
  | cost (c : Nat)
  | illegalOpcode (info : IllegalOpcode)
  deriving DecidableEq, Repr

/-- The complete state: the Register File, the Clock, the run mode (10_state.md), the Bus, and the records the rules
ask a model to keep. -/
@[ext]
structure State where
  a : Byte
  b : Byte
  c : Byte
  d : Byte
  e : Byte
  h : Byte
  l : Byte
  /-- All eight bits are stored and read back (R40). -/
  f : Byte
  pc : Word
  sp : Word
  /-- Machine cycles; `CLOCK_WIDTH` is unbounded, so a counter never wraps (R42, D5; log 11). -/
  m : Nat
  /-- Clock ticks (R42). -/
  t : Nat
  mode : Mode
  phase : Phase
  bus : Bus
  /-- Every IllegalOpcode so far, newest first (60_exceptions.md R505; log 3). -/
  faultRecord : List IllegalOpcode
  /-- What the last step returned; none before the first (log 3). -/
  result : Option StepResult
  deriving DecidableEq, Repr

/-- Why the machine stops with a fault. -/
inductive Fault where
  /-- Raised by `step` and by the snapshot before the first reset, when no register holds a value (10_state.md R50,
  D11). Safe: the spec gives no value to go on with. -/
  | registerReadBeforeReset
  /-- Raised by `step` in the halted mode: "in the halted mode the core has no step", it "is stuck until reset"
  (40_dispatch.md R147, D4). Safe: no step is added that the hardware lacks. -/
  | stuckHalted
  deriving DecidableEq, Repr

/-- Why the model gives no meaning. -/
inductive Refusal where
  /-- Kept for an instruction without a meaning; every instruction has one, so nothing raises it. Safe. -/
  | notModelled (mnemonic : String)
  deriving DecidableEq, Repr

/-- What a meaning or a step answers. -/
abbrev Answer := Host.Outcome State Fault Refusal

/-- The machine right after reset (10_state.md R49, 70_reset_and_hazards.md R601). The registers, the counters and the
mode are the spec's; the empty memory, map, trace and records are the model's (logs 4, 5, 18). -/
def State.reset : State where
  a := 0
  b := 0
  c := 0
  d := 0
  e := 0
  h := 0
  l := 0
  f := 0
  pc := 0
  sp := 0
  m := 0
  t := 0
  mode := .running
  phase := .ready
  bus := { mem := [], map := [], trace := [] }
  faultRecord := []
  result := none

/-- The machine between construction and the first reset, on a given bus (10_state.md R50; log 9). What its registers
are filled with is never read: `step` and the snapshot fault first. -/
def State.constructed (bus : Bus) : State :=
  { State.reset with phase := .constructed, bus := bus }

end Sys2Proof.Machine
end

