-- ==== Sys2Proof/Machine/Ops.lean ====
section
/-! DEFINITION. The named operations: memory, the Bus, registers and pairs, the clock, fetching an instruction, the
IllegalOpcode condition, and the host's reset and snapshot. -/

namespace Sys2Proof.Machine

/-! Memory: the contents behind the Bus. -/

/-- The byte at an address; an unlisted address reads as `Config.unlistedByte`. -/
def Memory.read : Memory → Nat → Byte
  | [], _ => Config.unlistedByte
  | (k, v) :: rest, addr => if k = addr then v else Memory.read rest addr

/-- Put a cell in front of a list, unless it holds what an unlisted address reads as. -/
def Memory.cons (addr : Nat) (v : Byte) (rest : Memory) : Memory :=
  if v = Config.unlistedByte then rest else (addr, v) :: rest

/-- Write a byte, keeping the canonical form. -/
def Memory.write : Memory → Nat → Byte → Memory
  | [], addr, v => Memory.cons addr v []
  | (k, w) :: rest, addr, v =>
    if addr < k then Memory.cons addr v ((k, w) :: rest)
    else if k = addr then Memory.cons addr v rest
    else (k, w) :: Memory.write rest addr v

/-- The canonical form from an address on: addresses rise strictly, lie in the 16-bit space, and no cell holds what
an unlisted address reads as. -/
def Memory.wfFrom : Nat → Memory → Bool
  | _, [] => true
  | lo, (k, v) :: rest =>
    decide (lo ≤ k) && decide (k < 2 ^ 16) && decide (v ≠ Config.unlistedByte) && Memory.wfFrom (k + 1) rest

/-- The canonical form. -/
def Memory.wf (mem : Memory) : Bool := Memory.wfFrom 0 mem

/-! The Bus (20_memory.md R71 to R75). -/

/-- Whether a region covers an address. -/
def Region.covers (r : Region) (addr : Word) : Bool :=
  decide (r.base ≤ addr.toNat) && decide (addr.toNat < r.base + r.size)

/-- The kind of an address in a map: that of the first region that covers it, else RAM (log 7). -/
def kindIn : List Region → Word → RegionKind
  | [], _ => .ram
  | r :: rest, addr => if r.covers addr then r.kind else kindIn rest addr

/-- The kind of an address on a bus. -/
def Bus.kindAt (bus : Bus) (addr : Word) : RegionKind := kindIn bus.map addr

/-- The byte the Bus answers to a read of an address issued now (R73, R85). -/
def Bus.answer (bus : Bus) (addr : Word) : Byte :=
  match bus.kindAt addr with
  | .ram => Memory.read bus.mem addr.toNat
  | .rom => Memory.read bus.mem addr.toNat
  | .fixed v => v
  | .device => Config.busAnswer bus.trace addr

/-- The contents of memory after a write: only RAM takes the byte (R74; log 7). -/
def Bus.stored (bus : Bus) (addr : Word) (v : Byte) : Memory :=
  match bus.kindAt addr with
  | .ram => Memory.write bus.mem addr.toNat v
  | .rom => bus.mem
  | .fixed _ => bus.mem
  | .device => bus.mem

/-- The bus with more transactions on its trace, given in program order (R90, R91). -/
def Bus.after (bus : Bus) (txs : List Transaction) : Bus :=
  { bus with trace := txs.reverse ++ bus.trace }

/-- The bus after one `readByte(addr)`. -/
def Bus.afterRead (bus : Bus) (addr : Word) : Bus := bus.after [.rd addr (bus.answer addr)]

/-- The bus after one `writeByte(addr, v)`. -/
def Bus.afterWrite (bus : Bus) (addr : Word) (v : Byte) : Bus :=
  { bus with mem := bus.stored addr v, trace := .wr addr v :: bus.trace }

/-- `MemRead(addr, 1)`: one transaction (00_scope.md R14). -/
def State.readByte (s : State) (addr : Word) : Byte × State :=
  (s.bus.answer addr, { s with bus := s.bus.afterRead addr })

/-- `MemWrite(addr, 1, v)`: one transaction (00_scope.md R14). -/
def State.writeByte (s : State) (addr : Word) (v : Byte) : State :=
  { s with bus := s.bus.afterWrite addr v }

/-- `readWord(addr)`: low byte at `addr`, read first, high byte at `addr + 1` modulo 2^16 (20_memory.md R76, D6). -/
def State.readWord (s : State) (addr : Word) : Word × State :=
  let lo := s.readByte addr
  let hi := lo.2.readByte (addr + 1)
  (mkWord hi.1 lo.1, hi.2)

/-- `writeWord(addr, v)`: low byte first (20_memory.md R77, D7). No instruction issues it. -/
def State.writeWord (s : State) (addr : Word) (v : Word) : State :=
  (s.writeByte addr (loByte v)).writeByte (addr + 1) (hiByte v)

/-! Registers (10_state.md R31 to R39). -/

/-- `x[r]`. -/
def State.reg (s : State) : Reg8 → Byte
  | .a => s.a
  | .b => s.b
  | .c => s.c
  | .d => s.d
  | .e => s.e
  | .h => s.h
  | .l => s.l
  | .f => s.f

/-- `x[r] <- v` for a byte. -/
def State.setReg (s : State) (r : Reg8) (v : Byte) : State :=
  match r with
  | .a => { s with a := v }
  | .b => { s with b := v }
  | .c => { s with c := v }
  | .d => { s with d := v }
  | .e => { s with e := v }
  | .h => { s with h := v }
  | .l => { s with l := v }
  | .f => { s with f := v }

/-- `x[r] <- v` for any integer: the low 8 bits are stored (R33). -/
def State.writeReg (s : State) (r : Reg8) (v : Int) : State := s.setReg r (BitVec.ofInt 8 v)

/-- `pc <- v` for any integer (R33). -/
def State.writePc (s : State) (v : Int) : State := { s with pc := BitVec.ofInt 16 v }

/-- `sp <- v` for a word. -/
def State.setSp (s : State) (v : Word) : State := { s with sp := v }

/-- `sp <- v` for any integer (R33). -/
def State.writeSp (s : State) (v : Int) : State := s.setSp (BitVec.ofInt 16 v)

/-- The high register of a pair (R35). -/
def Pair.hi : Pair → Reg8
  | .bc => .b
  | .de => .d
  | .hl => .h

/-- The low register of a pair (R35). -/
def Pair.lo : Pair → Reg8
  | .bc => .c
  | .de => .e
  | .hl => .l

/-- `pair(p)`: computed from the two registers, never stored (R35). -/
def State.pair (s : State) (p : Pair) : Word := mkWord (s.reg p.hi) (s.reg p.lo)

/-- `setpair(p, w)` for a word (R36). -/
def State.setPair (s : State) (p : Pair) (w : Word) : State :=
  (s.setReg p.hi (hiByte w)).setReg p.lo (loByte w)

/-- `setpair(p, v)` for any integer (R36). -/
def State.writePair (s : State) (p : Pair) (v : Int) : State := s.setPair p (BitVec.ofInt 16 v)

/-- Pair increment modulo 2^16 (R37). -/
def State.incPair (s : State) (p : Pair) : State := s.setPair p (s.pair p + 1)

/-- Pair decrement modulo 2^16 (R37). -/
def State.decPair (s : State) (p : Pair) : State := s.setPair p (s.pair p - 1)

/-! The clock and the end of a step (40_dispatch.md R141 to R144). -/

/-- `tick(c)` (R143). -/
def State.tick (s : State) (cost : Nat) : State :=
  { s with m := s.m + cost, t := s.t + Config.ticksPerMachineCycle * cost }

/-- The Dispatcher's end of a completed step: `tick(cost)`, then return the cost (R141, R143, R144). -/
def finish (cost : Nat) (s : State) : Answer :=
  .next { s.tick cost with result := some (.cost cost) }

/-- Taking the one exception, IllegalOpcode, in the post-fetch state (60_exceptions.md R501 to R505; log 2): nothing is
saved and no vector is taken, `pc` stays past the opcode, the clock does not tick, the core stays running. The opcode
and its address are returned to the host and added to the fault record. There is no return from it: the hardware has no
trap return (R507). -/
def raiseIllegalOpcode (opcode : Byte) (s : State) : Answer :=
  let info : IllegalOpcode := { opcode := opcode, pc0 := s.pc - 1 }
  .next { s with faultRecord := info :: s.faultRecord, result := some (.illegalOpcode info) }

/-! Fetching (00_scope.md R14, 40_dispatch.md R141, R145). -/

/-- `fetch8()`: read the byte at `pc`, advance `pc` by 1 modulo 2^16. -/
def State.fetch8 (s : State) : Byte × State :=
  let r := s.readByte s.pc
  (r.1, { r.2 with pc := s.pc + 1 })

/-- `fetch16()`: low byte first. -/
def State.fetch16 (s : State) : Word × State :=
  let lo := s.fetch8
  let hi := lo.2.fetch8
  (mkWord hi.1 lo.1, hi.2)

/-- The operand bytes of a slot's instruction, read in address order (20_memory.md R91; log 12). -/
def fetchOperands (opcode : Byte) : Slot → State → Instr × State
  | .undefinedSlot, s => (.undefined opcode, s)
  | .f1 i, s => (i, s)
  | .f2 withByte, s =>
    let n := s.fetch8
    (withByte n.1, n.2)
  | .f3 withWord, s =>
    let nn := s.fetch16
    (withWord nn.1, nn.2)

/-- The instruction at `pc`, and the state with its bytes fetched. -/
def State.fetchInstr (s : State) : Instr × State :=
  let op := s.fetch8
  fetchOperands op.1 (slotOf op.1) op.2

/-- The bus answers these bytes to fetches from `pc` on, one after another. -/
def Bus.presents (bus : Bus) (pc : Word) : List Byte → Prop
  | [] => True
  | v :: rest => bus.answer pc = v ∧ (bus.afterRead pc).presents (pc + 1) rest

/-- The transactions of fetching these bytes from `pc` on. -/
def fetchReads (pc : Word) : List Byte → List Transaction
  | [] => []
  | v :: rest => .rd pc v :: fetchReads (pc + 1) rest

/-- The state after these bytes have been fetched from `pc` on. -/
def State.fetched (s : State) (bytes : List Byte) : State :=
  { s with pc := s.pc + BitVec.ofNat 16 bytes.length, bus := s.bus.after (fetchReads s.pc bytes) }

/-! The host's other two actions (60_exceptions.md R512). -/

/-- `reset()` (70_reset_and_hazards.md R601, R602, D22): every register and both counters zero, the mode running, no bus
transaction, memory unchanged. The fault record stays (60_exceptions.md R505; log 13). -/
def hostReset (s : State) : State :=
  { State.reset with bus := s.bus, faultRecord := s.faultRecord }

/-- What the snapshot accessors give (10_state.md R48, 60_exceptions.md R512). -/
structure Snapshot where
  a : Byte
  b : Byte
  c : Byte
  d : Byte
  e : Byte
  h : Byte
  l : Byte
  f : Byte
  pc : Word
  sp : Word
  m : Nat
  t : Nat
  deriving DecidableEq, Repr

/-- The snapshot: read-only. Before the first reset there is nothing to read (10_state.md R50). -/
def snapshot (s : State) : Except Fault Snapshot :=
  match s.phase with
  | .constructed => .error .registerReadBeforeReset
  | .ready => .ok { a := s.a, b := s.b, c := s.c, d := s.d, e := s.e, h := s.h, l := s.l, f := s.f,
                    pc := s.pc, sp := s.sp, m := s.m, t := s.t }

/-! Placing a program from outside the core (log 14). -/

/-- Whether the byte at an address is the memory's own contents. -/
def Bus.backed (bus : Bus) (addr : Word) : Bool :=
  match bus.kindAt addr with
  | .ram => true
  | .rom => true
  | .fixed _ => false
  | .device => false

/-- Put a byte where the Bus will answer it, with no transaction; an address that is not memory becomes RAM. -/
def Bus.place (bus : Bus) (addr : Word) (v : Byte) : Bus :=
  { bus with
    mem := Memory.write bus.mem addr.toNat v
    map := if bus.backed addr then bus.map else { base := addr.toNat, size := 1, kind := .ram } :: bus.map }

/-- Put bytes at an address and the addresses after it, modulo 2^16. -/
def Bus.placeAll (bus : Bus) (addr : Word) : List Byte → Bus
  | [] => bus
  | v :: rest => (bus.place addr v).placeAll (addr + 1) rest

end Sys2Proof.Machine
end

