-- ==== Sys2Proof/Machine/Operands.lean ====
section
/-! DEFINITION. The operand forms and the transfers of the templates (30_encoding.md R116, R117; 40_dispatch.md R146).
Each template's operation is written once here, with its cost; the instructions name their operands. Every operation is
entered with the instruction's bytes fetched and `pc` past them (log 12). -/

namespace Sys2Proof.Machine

/-- The address of a fixed-page form: 0xFF00 plus an unsigned byte, with no wrap possible (R116). -/
def pageAddress (offset : Byte) : Word := Config.fixedPageBase + zext16 offset

/-- `x[d] <- MemRead(addr, 1)`. -/
def loadFrom (dst : Reg8) (addr : Word) (s : State) : State :=
  let r := s.readByte addr
  r.2.setReg dst r.1

/-- `MemWrite(addr, 1, v)`. -/
def storeTo (addr : Word) (v : Byte) (s : State) : State := s.writeByte addr v

/-- Template "no-operation", cost 1. -/
def noOperation (s : State) : Answer := finish 1 s

/-- Template "reg ← reg", cost 1. -/
def ldRegReg (dst src : Reg8) (s : State) : Answer := finish 1 (s.setReg dst (s.reg src))

/-- Template "reg ← immediate", cost 2. -/
def ldRegImm (dst : Reg8) (n : Byte) (s : State) : Answer := finish 2 (s.setReg dst n)

/-- Template "reg ← (pair)", cost 2: the address is formed before the register is written. -/
def ldRegInd (dst : Reg8) (p : Pair) (s : State) : Answer := finish 2 (loadFrom dst (s.pair p) s)

/-- Template "(pair) ← reg", cost 2. -/
def ldIndReg (p : Pair) (src : Reg8) (s : State) : Answer := finish 2 (storeTo (s.pair p) (s.reg src) s)

/-- Template "(pair) ← immediate", cost 3. -/
def ldIndImm (p : Pair) (n : Byte) (s : State) : Answer := finish 3 (storeTo (s.pair p) n s)

/-- Template "reg ← (nn)", cost 4. -/
def ldRegAbs (dst : Reg8) (nn : Word) (s : State) : Answer := finish 4 (loadFrom dst nn s)

/-- Template "(nn) ← reg", cost 4. -/
def ldAbsReg (nn : Word) (src : Reg8) (s : State) : Answer := finish 4 (storeTo nn (s.reg src) s)

/-- Template "reg ← (0xFF00+reg)", cost 2. -/
def ldRegPageReg (dst offset : Reg8) (s : State) : Answer := finish 2 (loadFrom dst (pageAddress (s.reg offset)) s)

/-- Template "(0xFF00+reg) ← reg", cost 2. -/
def ldPageRegReg (offset src : Reg8) (s : State) : Answer :=
  finish 2 (storeTo (pageAddress (s.reg offset)) (s.reg src) s)

/-- Template "reg ← (0xFF00+n)", cost 3. -/
def ldRegPageImm (dst : Reg8) (n : Byte) (s : State) : Answer := finish 3 (loadFrom dst (pageAddress n) s)

/-- Template "(0xFF00+n) ← reg", cost 3. -/
def ldPageImmReg (n : Byte) (src : Reg8) (s : State) : Answer := finish 3 (storeTo (pageAddress n) (s.reg src) s)

/-- HL auto-increment load, cost 2: the plain `(HL)` transfer, then `hl <- addr + 1` (R149, R332). -/
def loadHLInc (dst : Reg8) (s : State) : Answer :=
  finish 2 ((loadFrom dst (s.pair .hl) s).setPair .hl (s.pair .hl + 1))

/-- HL auto-increment store, cost 2: the plain `(HL)` transfer, then `hl <- addr + 1` (R149, R331). -/
def storeHLInc (src : Reg8) (s : State) : Answer :=
  finish 2 ((storeTo (s.pair .hl) (s.reg src) s).setPair .hl (s.pair .hl + 1))

/-- HL auto-decrement load, cost 2: the plain `(HL)` transfer, then `hl <- addr - 1` (R149, R334). -/
def loadHLDec (dst : Reg8) (s : State) : Answer :=
  finish 2 ((loadFrom dst (s.pair .hl) s).setPair .hl (s.pair .hl - 1))

/-- HL auto-decrement store, cost 2: the plain `(HL)` transfer, then `hl <- addr - 1` (R149, R333). -/
def storeHLDec (src : Reg8) (s : State) : Answer :=
  finish 2 ((storeTo (s.pair .hl) (s.reg src) s).setPair .hl (s.pair .hl - 1))

/-- Template "16-bit pair ← immediate", cost 3. -/
def ldPairImm (p : Pair) (nn : Word) (s : State) : Answer := finish 3 (s.setPair p nn)

/-- Template "`sp` ← immediate", cost 3. -/
def ldSpImm (nn : Word) (s : State) : Answer := finish 3 (s.setSp nn)

/-- Template "`sp` ← `hl`", cost 2: the value of the pair, with no memory read (C2, D13; log 17). -/
def ldSpPair (p : Pair) (s : State) : Answer := finish 2 (s.setSp (s.pair p))

end Sys2Proof.Machine
end

