-- ==== Sys2Proof/Machine/Control.lean ====
section
/-! DEFINITION. The meanings of the no-operation and the Undefined slots (40_dispatch.md). -/

namespace Sys2Proof.Machine

/-- `NOP` (R150). -/
def execNop (s : State) : Answer := noOperation s

/-- An Undefined slot (40_dispatch.md R142, 60_exceptions.md R501). -/
def execUndefined (opcode : Byte) (s : State) : Answer := raiseIllegalOpcode opcode s

end Sys2Proof.Machine
end

