-- ==== Sys2Proof/Machine/Ld16.lean ====
section
/-! DEFINITION. The meanings of the 16-bit loads (43_ld16.md). -/

namespace Sys2Proof.Machine

/-- `LD BC,nn` (R401). -/
def execLdBC_nn (nn : Word) (s : State) : Answer := ldPairImm .bc nn s

/-- `LD DE,nn` (R402). -/
def execLdDE_nn (nn : Word) (s : State) : Answer := ldPairImm .de nn s

/-- `LD HL,nn` (R403). -/
def execLdHL_nn (nn : Word) (s : State) : Answer := ldPairImm .hl nn s

/-- `LD SP,nn` (R404). -/
def execLdSP_nn (nn : Word) (s : State) : Answer := ldSpImm nn s

/-- `LD SP,HL` (R405). -/
def execLdSP_HL (s : State) : Answer := ldSpPair .hl s

end Sys2Proof.Machine
end

