-- ==== Sys2Proof/Machine/LdMem.lean ====
section
/-! DEFINITION. The meanings of the 8-bit memory loads and stores (42_ld8_indirect.md). -/

namespace Sys2Proof.Machine

/-- `LD B,(HL)` (R301). -/
def execLdB_atHL (s : State) : Answer := ldRegInd .b .hl s

/-- `LD C,(HL)` (R302). -/
def execLdC_atHL (s : State) : Answer := ldRegInd .c .hl s

/-- `LD D,(HL)` (R303). -/
def execLdD_atHL (s : State) : Answer := ldRegInd .d .hl s

/-- `LD E,(HL)` (R304). -/
def execLdE_atHL (s : State) : Answer := ldRegInd .e .hl s

/-- `LD H,(HL)` (R305). -/
def execLdH_atHL (s : State) : Answer := ldRegInd .h .hl s

/-- `LD L,(HL)` (R306). -/
def execLdL_atHL (s : State) : Answer := ldRegInd .l .hl s

/-- `LD A,(HL)` (R307). -/
def execLdA_atHL (s : State) : Answer := ldRegInd .a .hl s

/-- `LD (HL),B` (R311). -/
def execLdAtHL_B (s : State) : Answer := ldIndReg .hl .b s

/-- `LD (HL),C` (R312). -/
def execLdAtHL_C (s : State) : Answer := ldIndReg .hl .c s

/-- `LD (HL),D` (R313). -/
def execLdAtHL_D (s : State) : Answer := ldIndReg .hl .d s

/-- `LD (HL),E` (R314). -/
def execLdAtHL_E (s : State) : Answer := ldIndReg .hl .e s

/-- `LD (HL),H` (R315). -/
def execLdAtHL_H (s : State) : Answer := ldIndReg .hl .h s

/-- `LD (HL),L` (R316). -/
def execLdAtHL_L (s : State) : Answer := ldIndReg .hl .l s

/-- `LD (HL),A` (R317). -/
def execLdAtHL_A (s : State) : Answer := ldIndReg .hl .a s

/-- `LD (HL),n` (R318). -/
def execLdAtHL_n (n : Byte) (s : State) : Answer := ldIndImm .hl n s

/-- `LD A,(BC)` (R321). -/
def execLdA_atBC (s : State) : Answer := ldRegInd .a .bc s

/-- `LD A,(DE)` (R322). -/
def execLdA_atDE (s : State) : Answer := ldRegInd .a .de s

/-- `LD (BC),A` (R323). -/
def execLdAtBC_A (s : State) : Answer := ldIndReg .bc .a s

/-- `LD (DE),A` (R324). -/
def execLdAtDE_A (s : State) : Answer := ldIndReg .de .a s

/-- `LD A,(nn)` (R325). -/
def execLdA_atNN (nn : Word) (s : State) : Answer := ldRegAbs .a nn s

/-- `LD (nn),A` (R326). -/
def execLdAtNN_A (nn : Word) (s : State) : Answer := ldAbsReg nn .a s

/-- `LD A,(C)` (R327). -/
def execLdA_atC (s : State) : Answer := ldRegPageReg .a .c s

/-- `LD (C),A` (R328). -/
def execLdAtC_A (s : State) : Answer := ldPageRegReg .c .a s

/-- `LDH A,(n)` (R329). -/
def execLdhA_atN (n : Byte) (s : State) : Answer := ldRegPageImm .a n s

/-- `LDH (n),A` (R330). -/
def execLdhAtN_A (n : Byte) (s : State) : Answer := ldPageImmReg n .a s

/-- `LD (HL+),A` (R331). -/
def execLdAtHLInc_A (s : State) : Answer := storeHLInc .a s

/-- `LD A,(HL+)` (R332). -/
def execLdA_atHLInc (s : State) : Answer := loadHLInc .a s

/-- `LD (HL-),A` (R333). -/
def execLdAtHLDec_A (s : State) : Answer := storeHLDec .a s

/-- `LD A,(HL-)` (R334). -/
def execLdA_atHLDec (s : State) : Answer := loadHLDec .a s

end Sys2Proof.Machine
end

