-- ==== Sys2Proof/Machine/LdReg.lean ====
section
/-! DEFINITION. The meanings of the 8-bit register loads (41_ld8_register.md). -/

namespace Sys2Proof.Machine

/-- `LD B,B` (R201). -/
def execLdB_B (s : State) : Answer := ldRegReg .b .b s

/-- `LD B,C` (R202). -/
def execLdB_C (s : State) : Answer := ldRegReg .b .c s

/-- `LD B,D` (R203). -/
def execLdB_D (s : State) : Answer := ldRegReg .b .d s

/-- `LD B,E` (R204). -/
def execLdB_E (s : State) : Answer := ldRegReg .b .e s

/-- `LD B,H` (R205). -/
def execLdB_H (s : State) : Answer := ldRegReg .b .h s

/-- `LD B,L` (R206). -/
def execLdB_L (s : State) : Answer := ldRegReg .b .l s

/-- `LD B,A` (R207). -/
def execLdB_A (s : State) : Answer := ldRegReg .b .a s

/-- `LD C,B` (R208). -/
def execLdC_B (s : State) : Answer := ldRegReg .c .b s

/-- `LD C,C` (R209). -/
def execLdC_C (s : State) : Answer := ldRegReg .c .c s

/-- `LD C,D` (R210). -/
def execLdC_D (s : State) : Answer := ldRegReg .c .d s

/-- `LD C,E` (R211). -/
def execLdC_E (s : State) : Answer := ldRegReg .c .e s

/-- `LD C,H` (R212). -/
def execLdC_H (s : State) : Answer := ldRegReg .c .h s

/-- `LD C,L` (R213). -/
def execLdC_L (s : State) : Answer := ldRegReg .c .l s

/-- `LD C,A` (R214). -/
def execLdC_A (s : State) : Answer := ldRegReg .c .a s

/-- `LD D,B` (R215). -/
def execLdD_B (s : State) : Answer := ldRegReg .d .b s

/-- `LD D,C` (R216). -/
def execLdD_C (s : State) : Answer := ldRegReg .d .c s

/-- `LD D,D` (R217). -/
def execLdD_D (s : State) : Answer := ldRegReg .d .d s

/-- `LD D,E` (R218). -/
def execLdD_E (s : State) : Answer := ldRegReg .d .e s

/-- `LD D,H` (R219). -/
def execLdD_H (s : State) : Answer := ldRegReg .d .h s

/-- `LD D,L` (R220). -/
def execLdD_L (s : State) : Answer := ldRegReg .d .l s

/-- `LD D,A` (R221). -/
def execLdD_A (s : State) : Answer := ldRegReg .d .a s

/-- `LD E,B` (R222). -/
def execLdE_B (s : State) : Answer := ldRegReg .e .b s

/-- `LD E,C` (R223). -/
def execLdE_C (s : State) : Answer := ldRegReg .e .c s

/-- `LD E,D` (R224). -/
def execLdE_D (s : State) : Answer := ldRegReg .e .d s

/-- `LD E,E` (R225). -/
def execLdE_E (s : State) : Answer := ldRegReg .e .e s

/-- `LD E,H` (R226). -/
def execLdE_H (s : State) : Answer := ldRegReg .e .h s

/-- `LD E,L` (R227). -/
def execLdE_L (s : State) : Answer := ldRegReg .e .l s

/-- `LD E,A` (R228). -/
def execLdE_A (s : State) : Answer := ldRegReg .e .a s

/-- `LD H,B` (R229). -/
def execLdH_B (s : State) : Answer := ldRegReg .h .b s

/-- `LD H,C` (R230). -/
def execLdH_C (s : State) : Answer := ldRegReg .h .c s

/-- `LD H,D` (R231). -/
def execLdH_D (s : State) : Answer := ldRegReg .h .d s

/-- `LD H,E` (R232). -/
def execLdH_E (s : State) : Answer := ldRegReg .h .e s

/-- `LD H,H` (R233). -/
def execLdH_H (s : State) : Answer := ldRegReg .h .h s

/-- `LD H,L` (R234). -/
def execLdH_L (s : State) : Answer := ldRegReg .h .l s

/-- `LD H,A` (R235). -/
def execLdH_A (s : State) : Answer := ldRegReg .h .a s

/-- `LD L,B` (R236). -/
def execLdL_B (s : State) : Answer := ldRegReg .l .b s

/-- `LD L,C` (R237). -/
def execLdL_C (s : State) : Answer := ldRegReg .l .c s

/-- `LD L,D` (R238). -/
def execLdL_D (s : State) : Answer := ldRegReg .l .d s

/-- `LD L,E` (R239). -/
def execLdL_E (s : State) : Answer := ldRegReg .l .e s

/-- `LD L,H` (R240). -/
def execLdL_H (s : State) : Answer := ldRegReg .l .h s

/-- `LD L,L` (R241). -/
def execLdL_L (s : State) : Answer := ldRegReg .l .l s

/-- `LD L,A` (R242). -/
def execLdL_A (s : State) : Answer := ldRegReg .l .a s

/-- `LD A,B` (R243). -/
def execLdA_B (s : State) : Answer := ldRegReg .a .b s

/-- `LD A,C` (R244). -/
def execLdA_C (s : State) : Answer := ldRegReg .a .c s

/-- `LD A,D` (R245). -/
def execLdA_D (s : State) : Answer := ldRegReg .a .d s

/-- `LD A,E` (R246). -/
def execLdA_E (s : State) : Answer := ldRegReg .a .e s

/-- `LD A,H` (R247). -/
def execLdA_H (s : State) : Answer := ldRegReg .a .h s

/-- `LD A,L` (R248). -/
def execLdA_L (s : State) : Answer := ldRegReg .a .l s

/-- `LD A,A` (R249). -/
def execLdA_A (s : State) : Answer := ldRegReg .a .a s

/-- `LD B,n` (R251). -/
def execLdB_n (n : Byte) (s : State) : Answer := ldRegImm .b n s

/-- `LD C,n` (R252). -/
def execLdC_n (n : Byte) (s : State) : Answer := ldRegImm .c n s

/-- `LD D,n` (R253). -/
def execLdD_n (n : Byte) (s : State) : Answer := ldRegImm .d n s

/-- `LD E,n` (R254). -/
def execLdE_n (n : Byte) (s : State) : Answer := ldRegImm .e n s

/-- `LD H,n` (R255). -/
def execLdH_n (n : Byte) (s : State) : Answer := ldRegImm .h n s

/-- `LD L,n` (R256). -/
def execLdL_n (n : Byte) (s : State) : Answer := ldRegImm .l n s

/-- `LD A,n` (R257). -/
def execLdA_n (n : Byte) (s : State) : Answer := ldRegImm .a n s

end Sys2Proof.Machine
end

