-- ==== Sys2Proof/Machine/Dispatch.lean ====
section
/-! DEFINITION. One arm per instruction: what an instruction does to the state in which its bytes have been fetched. -/

namespace Sys2Proof.Machine

def exec (i : Instr) (s : State) : Host.Outcome State Fault Refusal :=
  match i with
  | .nop => Sys2Proof.Machine.execNop s
  | .ldBC_nn nn => Sys2Proof.Machine.execLdBC_nn nn s
  | .ldAtBC_A => Sys2Proof.Machine.execLdAtBC_A s
  | .ldB_n n => Sys2Proof.Machine.execLdB_n n s
  | .ldA_atBC => Sys2Proof.Machine.execLdA_atBC s
  | .ldC_n n => Sys2Proof.Machine.execLdC_n n s
  | .ldDE_nn nn => Sys2Proof.Machine.execLdDE_nn nn s
  | .ldAtDE_A => Sys2Proof.Machine.execLdAtDE_A s
  | .ldD_n n => Sys2Proof.Machine.execLdD_n n s
  | .ldA_atDE => Sys2Proof.Machine.execLdA_atDE s
  | .ldE_n n => Sys2Proof.Machine.execLdE_n n s
  | .ldHL_nn nn => Sys2Proof.Machine.execLdHL_nn nn s
  | .ldAtHLInc_A => Sys2Proof.Machine.execLdAtHLInc_A s
  | .ldH_n n => Sys2Proof.Machine.execLdH_n n s
  | .ldA_atHLInc => Sys2Proof.Machine.execLdA_atHLInc s
  | .ldL_n n => Sys2Proof.Machine.execLdL_n n s
  | .ldSP_nn nn => Sys2Proof.Machine.execLdSP_nn nn s
  | .ldAtHLDec_A => Sys2Proof.Machine.execLdAtHLDec_A s
  | .ldAtHL_n n => Sys2Proof.Machine.execLdAtHL_n n s
  | .ldA_atHLDec => Sys2Proof.Machine.execLdA_atHLDec s
  | .ldA_n n => Sys2Proof.Machine.execLdA_n n s
  | .ldB_B => Sys2Proof.Machine.execLdB_B s
  | .ldB_C => Sys2Proof.Machine.execLdB_C s
  | .ldB_D => Sys2Proof.Machine.execLdB_D s
  | .ldB_E => Sys2Proof.Machine.execLdB_E s
  | .ldB_H => Sys2Proof.Machine.execLdB_H s
  | .ldB_L => Sys2Proof.Machine.execLdB_L s
  | .ldB_atHL => Sys2Proof.Machine.execLdB_atHL s
  | .ldB_A => Sys2Proof.Machine.execLdB_A s
  | .ldC_B => Sys2Proof.Machine.execLdC_B s
  | .ldC_C => Sys2Proof.Machine.execLdC_C s
  | .ldC_D => Sys2Proof.Machine.execLdC_D s
  | .ldC_E => Sys2Proof.Machine.execLdC_E s
  | .ldC_H => Sys2Proof.Machine.execLdC_H s
  | .ldC_L => Sys2Proof.Machine.execLdC_L s
  | .ldC_atHL => Sys2Proof.Machine.execLdC_atHL s
  | .ldC_A => Sys2Proof.Machine.execLdC_A s
  | .ldD_B => Sys2Proof.Machine.execLdD_B s
  | .ldD_C => Sys2Proof.Machine.execLdD_C s
  | .ldD_D => Sys2Proof.Machine.execLdD_D s
  | .ldD_E => Sys2Proof.Machine.execLdD_E s
  | .ldD_H => Sys2Proof.Machine.execLdD_H s
  | .ldD_L => Sys2Proof.Machine.execLdD_L s
  | .ldD_atHL => Sys2Proof.Machine.execLdD_atHL s
  | .ldD_A => Sys2Proof.Machine.execLdD_A s
  | .ldE_B => Sys2Proof.Machine.execLdE_B s
  | .ldE_C => Sys2Proof.Machine.execLdE_C s
  | .ldE_D => Sys2Proof.Machine.execLdE_D s
  | .ldE_E => Sys2Proof.Machine.execLdE_E s
  | .ldE_H => Sys2Proof.Machine.execLdE_H s
  | .ldE_L => Sys2Proof.Machine.execLdE_L s
  | .ldE_atHL => Sys2Proof.Machine.execLdE_atHL s
  | .ldE_A => Sys2Proof.Machine.execLdE_A s
  | .ldH_B => Sys2Proof.Machine.execLdH_B s
  | .ldH_C => Sys2Proof.Machine.execLdH_C s
  | .ldH_D => Sys2Proof.Machine.execLdH_D s
  | .ldH_E => Sys2Proof.Machine.execLdH_E s
  | .ldH_H => Sys2Proof.Machine.execLdH_H s
  | .ldH_L => Sys2Proof.Machine.execLdH_L s
  | .ldH_atHL => Sys2Proof.Machine.execLdH_atHL s
  | .ldH_A => Sys2Proof.Machine.execLdH_A s
  | .ldL_B => Sys2Proof.Machine.execLdL_B s
  | .ldL_C => Sys2Proof.Machine.execLdL_C s
  | .ldL_D => Sys2Proof.Machine.execLdL_D s
  | .ldL_E => Sys2Proof.Machine.execLdL_E s
  | .ldL_H => Sys2Proof.Machine.execLdL_H s
  | .ldL_L => Sys2Proof.Machine.execLdL_L s
  | .ldL_atHL => Sys2Proof.Machine.execLdL_atHL s
  | .ldL_A => Sys2Proof.Machine.execLdL_A s
  | .ldAtHL_B => Sys2Proof.Machine.execLdAtHL_B s
  | .ldAtHL_C => Sys2Proof.Machine.execLdAtHL_C s
  | .ldAtHL_D => Sys2Proof.Machine.execLdAtHL_D s
  | .ldAtHL_E => Sys2Proof.Machine.execLdAtHL_E s
  | .ldAtHL_H => Sys2Proof.Machine.execLdAtHL_H s
  | .ldAtHL_L => Sys2Proof.Machine.execLdAtHL_L s
  | .ldAtHL_A => Sys2Proof.Machine.execLdAtHL_A s
  | .ldA_B => Sys2Proof.Machine.execLdA_B s
  | .ldA_C => Sys2Proof.Machine.execLdA_C s
  | .ldA_D => Sys2Proof.Machine.execLdA_D s
  | .ldA_E => Sys2Proof.Machine.execLdA_E s
  | .ldA_H => Sys2Proof.Machine.execLdA_H s
  | .ldA_L => Sys2Proof.Machine.execLdA_L s
  | .ldA_atHL => Sys2Proof.Machine.execLdA_atHL s
  | .ldA_A => Sys2Proof.Machine.execLdA_A s
  | .ldhAtN_A n => Sys2Proof.Machine.execLdhAtN_A n s
  | .ldAtC_A => Sys2Proof.Machine.execLdAtC_A s
  | .ldAtNN_A nn => Sys2Proof.Machine.execLdAtNN_A nn s
  | .ldhA_atN n => Sys2Proof.Machine.execLdhA_atN n s
  | .ldA_atC => Sys2Proof.Machine.execLdA_atC s
  | .ldSP_HL => Sys2Proof.Machine.execLdSP_HL s
  | .ldA_atNN nn => Sys2Proof.Machine.execLdA_atNN nn s
  | .undefined opcode => Sys2Proof.Machine.execUndefined opcode s

end Sys2Proof.Machine
end

