-- ==== Sys2Proof/Machine/Step.lean ====
section
/-! DEFINITION. One step of the core, and the placing of one instruction where the next step fetches it. -/

namespace Sys2Proof.Machine

/-- `step()` (40_dispatch.md R141): fetch the instruction at `pc` and run it. Before the first reset there is no `pc` to
read (10_state.md R50); in the halted mode there is no step (40_dispatch.md R147). -/
def step (s : State) : Host.Outcome State Fault Refusal :=
  match s.phase with
  | .constructed => .fault .registerReadBeforeReset
  | .ready =>
    match s.mode with
    | .halted => .fault .stuckHalted
    | .running => exec s.fetchInstr.1 s.fetchInstr.2

/-- The state with one instruction placed at `pc`, in a core that accepts a step (log 14). -/
def State.withFetchWord (s : State) (nbits w : Nat) : State :=
  { s with mode := .running, phase := .ready, bus := s.bus.placeAll s.pc (tableWordBytes nbits w) }

end Sys2Proof.Machine
end

