-- ==== Sys2Proof/Machine/HostPort.lean ====
section
/-! DEFINITION. The host's three actions between steps (60_exceptions.md R512). There is no other, and none writes a
register (D19). -/

namespace Sys2Proof.Machine

/-- What the host sends. -/
inductive HostAction where
  | reset
  | step
  | snapshot
  deriving DecidableEq, Repr

/-- The effect of an action on the state (R512): the snapshot has none. What the host gets back is `State.result` after a
step and `snapshot` of the state. -/
def hostAct : HostAction → State → Answer
  | .reset, s => .next (hostReset s)
  | .step, s => step s
  | .snapshot, s =>
    match snapshot s with
    | .ok _ => .next s
    | .error e => .fault e

end Sys2Proof.Machine
end

