-- ==== Sys2Proof/Machine/Templates.lean ====
section
/-! DEFINITION. The template table (40_dispatch.md R146, 30_encoding.md R119, 10_state.md R41): for each instruction its
template with its operands, and for each template its length, its cost, the registers it may write, the address it stores
to and the byte it stores there, and the address it loads from. It says the spec's table a second time, beside the meanings, for statements to be written in; no meaning
uses it. -/

namespace Sys2Proof.Machine

/-- A template with its operands (00_scope.md R3). -/
inductive Template where
  | nop
  | regReg (dst src : Reg8)
  | regImm (dst : Reg8) (n : Byte)
  | regInd (dst : Reg8) (p : Pair)
  | indReg (p : Pair) (src : Reg8)
  | indImm (p : Pair) (n : Byte)
  | regAbs (dst : Reg8) (nn : Word)
  | absReg (nn : Word) (src : Reg8)
  | regPageReg (dst offset : Reg8)
  | pageRegReg (offset src : Reg8)
  | regPageImm (dst : Reg8) (n : Byte)
  | pageImmReg (n : Byte) (src : Reg8)
  | loadInc (dst : Reg8)
  | storeInc (src : Reg8)
  | loadDec (dst : Reg8)
  | storeDec (src : Reg8)
  | pairImm (p : Pair) (nn : Word)
  | spImm (nn : Word)
  | spPair (p : Pair)
  | undefinedSlot (opcode : Byte)
  deriving DecidableEq, Repr

/-- The template of an instruction (30_encoding.md R119). -/
def template : Instr → Template
  | .nop => .nop
  | .ldBC_nn nn => .pairImm .bc nn
  | .ldAtBC_A => .indReg .bc .a
  | .ldB_n n => .regImm .b n
  | .ldA_atBC => .regInd .a .bc
  | .ldC_n n => .regImm .c n
  | .ldDE_nn nn => .pairImm .de nn
  | .ldAtDE_A => .indReg .de .a
  | .ldD_n n => .regImm .d n
  | .ldA_atDE => .regInd .a .de
  | .ldE_n n => .regImm .e n
  | .ldHL_nn nn => .pairImm .hl nn
  | .ldAtHLInc_A => .storeInc .a
  | .ldH_n n => .regImm .h n
  | .ldA_atHLInc => .loadInc .a
  | .ldL_n n => .regImm .l n
  | .ldSP_nn nn => .spImm nn
  | .ldAtHLDec_A => .storeDec .a
  | .ldAtHL_n n => .indImm .hl n
  | .ldA_atHLDec => .loadDec .a
  | .ldA_n n => .regImm .a n
  | .ldB_B => .regReg .b .b
  | .ldB_C => .regReg .b .c
  | .ldB_D => .regReg .b .d
  | .ldB_E => .regReg .b .e
  | .ldB_H => .regReg .b .h
  | .ldB_L => .regReg .b .l
  | .ldB_atHL => .regInd .b .hl
  | .ldB_A => .regReg .b .a
  | .ldC_B => .regReg .c .b
  | .ldC_C => .regReg .c .c
  | .ldC_D => .regReg .c .d
  | .ldC_E => .regReg .c .e
  | .ldC_H => .regReg .c .h
  | .ldC_L => .regReg .c .l
  | .ldC_atHL => .regInd .c .hl
  | .ldC_A => .regReg .c .a
  | .ldD_B => .regReg .d .b
  | .ldD_C => .regReg .d .c
  | .ldD_D => .regReg .d .d
  | .ldD_E => .regReg .d .e
  | .ldD_H => .regReg .d .h
  | .ldD_L => .regReg .d .l
  | .ldD_atHL => .regInd .d .hl
  | .ldD_A => .regReg .d .a
  | .ldE_B => .regReg .e .b
  | .ldE_C => .regReg .e .c
  | .ldE_D => .regReg .e .d
  | .ldE_E => .regReg .e .e
  | .ldE_H => .regReg .e .h
  | .ldE_L => .regReg .e .l
  | .ldE_atHL => .regInd .e .hl
  | .ldE_A => .regReg .e .a
  | .ldH_B => .regReg .h .b
  | .ldH_C => .regReg .h .c
  | .ldH_D => .regReg .h .d
  | .ldH_E => .regReg .h .e
  | .ldH_H => .regReg .h .h
  | .ldH_L => .regReg .h .l
  | .ldH_atHL => .regInd .h .hl
  | .ldH_A => .regReg .h .a
  | .ldL_B => .regReg .l .b
  | .ldL_C => .regReg .l .c
  | .ldL_D => .regReg .l .d
  | .ldL_E => .regReg .l .e
  | .ldL_H => .regReg .l .h
  | .ldL_L => .regReg .l .l
  | .ldL_atHL => .regInd .l .hl
  | .ldL_A => .regReg .l .a
  | .ldAtHL_B => .indReg .hl .b
  | .ldAtHL_C => .indReg .hl .c
  | .ldAtHL_D => .indReg .hl .d
  | .ldAtHL_E => .indReg .hl .e
  | .ldAtHL_H => .indReg .hl .h
  | .ldAtHL_L => .indReg .hl .l
  | .ldAtHL_A => .indReg .hl .a
  | .ldA_B => .regReg .a .b
  | .ldA_C => .regReg .a .c
  | .ldA_D => .regReg .a .d
  | .ldA_E => .regReg .a .e
  | .ldA_H => .regReg .a .h
  | .ldA_L => .regReg .a .l
  | .ldA_atHL => .regInd .a .hl
  | .ldA_A => .regReg .a .a
  | .ldhAtN_A n => .pageImmReg n .a
  | .ldAtC_A => .pageRegReg .c .a
  | .ldAtNN_A nn => .absReg nn .a
  | .ldhA_atN n => .regPageImm .a n
  | .ldA_atC => .regPageReg .a .c
  | .ldSP_HL => .spPair .hl
  | .ldA_atNN nn => .regAbs .a nn
  | .undefined opcode => .undefinedSlot opcode

/-- The register code of a register; `f` has none (30_encoding.md R114). -/
def Reg8.code : Reg8 → Option (BitVec 3)
  | .a => some Code.a
  | .b => some Code.b
  | .c => some Code.c
  | .d => some Code.d
  | .e => some Code.e
  | .h => some Code.h
  | .l => some Code.l
  | .f => none

/-- The pair code of a pair in the 16-bit immediate loads (30_encoding.md R115). -/
def Pair.code : Pair → BitVec 2
  | .bc => Code.bc
  | .de => Code.de
  | .hl => Code.hl

/-- The cost in machine cycles; an Undefined slot has none (R142, R146). -/
def Template.cost : Template → Option Nat
  | .nop => some 1
  | .regReg _ _ => some 1
  | .regImm _ _ => some 2
  | .regInd _ _ => some 2
  | .indReg _ _ => some 2
  | .indImm _ _ => some 3
  | .regAbs _ _ => some 4
  | .absReg _ _ => some 4
  | .regPageReg _ _ => some 2
  | .pageRegReg _ _ => some 2
  | .regPageImm _ _ => some 3
  | .pageImmReg _ _ => some 3
  | .loadInc _ => some 2
  | .storeInc _ => some 2
  | .loadDec _ => some 2
  | .storeDec _ => some 2
  | .pairImm _ _ => some 3
  | .spImm _ => some 3
  | .spPair _ => some 2
  | .undefinedSlot _ => none

/-- The length in bytes (30_encoding.md R112, R113). -/
def Template.length : Template → Nat
  | .nop => 1
  | .regReg _ _ => 1
  | .regImm _ _ => 2
  | .regInd _ _ => 1
  | .indReg _ _ => 1
  | .indImm _ _ => 2
  | .regAbs _ _ => 3
  | .absReg _ _ => 3
  | .regPageReg _ _ => 1
  | .pageRegReg _ _ => 1
  | .regPageImm _ _ => 2
  | .pageImmReg _ _ => 2
  | .loadInc _ => 1
  | .storeInc _ => 1
  | .loadDec _ => 1
  | .storeDec _ => 1
  | .pairImm _ _ => 3
  | .spImm _ => 3
  | .spPair _ => 1
  | .undefinedSlot _ => 1

/-- The 8-bit registers an instruction may write (10_state.md R41). -/
def Template.writes : Template → List Reg8
  | .nop => []
  | .regReg dst _ => [dst]
  | .regImm dst _ => [dst]
  | .regInd dst _ => [dst]
  | .indReg _ _ => []
  | .indImm _ _ => []
  | .regAbs dst _ => [dst]
  | .absReg _ _ => []
  | .regPageReg dst _ => [dst]
  | .pageRegReg _ _ => []
  | .regPageImm dst _ => [dst]
  | .pageImmReg _ _ => []
  | .loadInc dst => [dst, .h, .l]
  | .storeInc _ => [.h, .l]
  | .loadDec dst => [dst, .h, .l]
  | .storeDec _ => [.h, .l]
  | .pairImm p _ => [p.hi, p.lo]
  | .spImm _ => []
  | .spPair _ => []
  | .undefinedSlot _ => []

/-- Whether an instruction writes `sp` (10_state.md R39). -/
def Template.writesSp : Template → Bool
  | .nop => false
  | .regReg _ _ => false
  | .regImm _ _ => false
  | .regInd _ _ => false
  | .indReg _ _ => false
  | .indImm _ _ => false
  | .regAbs _ _ => false
  | .absReg _ _ => false
  | .regPageReg _ _ => false
  | .pageRegReg _ _ => false
  | .regPageImm _ _ => false
  | .pageImmReg _ _ => false
  | .loadInc _ => false
  | .storeInc _ => false
  | .loadDec _ => false
  | .storeDec _ => false
  | .pairImm _ _ => false
  | .spImm _ => true
  | .spPair _ => true
  | .undefinedSlot _ => false

/-- The address an instruction stores a byte to, in the state in which its bytes have been fetched. -/
def Template.storeAddress (s : State) : Template → Option Word
  | .nop => none
  | .regReg _ _ => none
  | .regImm _ _ => none
  | .regInd _ _ => none
  | .indReg p _ => some (s.pair p)
  | .indImm p _ => some (s.pair p)
  | .regAbs _ _ => none
  | .absReg nn _ => some nn
  | .regPageReg _ _ => none
  | .pageRegReg offset _ => some (pageAddress (s.reg offset))
  | .regPageImm _ _ => none
  | .pageImmReg n _ => some (pageAddress n)
  | .loadInc _ => none
  | .storeInc _ => some (s.pair .hl)
  | .loadDec _ => none
  | .storeDec _ => some (s.pair .hl)
  | .pairImm _ _ => none
  | .spImm _ => none
  | .spPair _ => none
  | .undefinedSlot _ => none

/-- The byte an instruction stores at its `storeAddress`, in the state in which its bytes have been fetched. -/
def Template.storedByte (s : State) : Template → Option Byte
  | .nop => none
  | .regReg _ _ => none
  | .regImm _ _ => none
  | .regInd _ _ => none
  | .indReg _ src => some (s.reg src)
  | .indImm _ n => some n
  | .regAbs _ _ => none
  | .absReg _ src => some (s.reg src)
  | .regPageReg _ _ => none
  | .pageRegReg _ src => some (s.reg src)
  | .regPageImm _ _ => none
  | .pageImmReg _ src => some (s.reg src)
  | .loadInc _ => none
  | .storeInc src => some (s.reg src)
  | .loadDec _ => none
  | .storeDec src => some (s.reg src)
  | .pairImm _ _ => none
  | .spImm _ => none
  | .spPair _ => none
  | .undefinedSlot _ => none

/-- The address an instruction loads a data byte from, in the state in which its bytes have been fetched. -/
def Template.loadAddress (s : State) : Template → Option Word
  | .nop => none
  | .regReg _ _ => none
  | .regImm _ _ => none
  | .regInd _ p => some (s.pair p)
  | .indReg _ _ => none
  | .indImm _ _ => none
  | .regAbs _ nn => some nn
  | .absReg _ _ => none
  | .regPageReg _ offset => some (pageAddress (s.reg offset))
  | .pageRegReg _ _ => none
  | .regPageImm _ n => some (pageAddress n)
  | .pageImmReg _ _ => none
  | .loadInc _ => some (s.pair .hl)
  | .storeInc _ => none
  | .loadDec _ => some (s.pair .hl)
  | .storeDec _ => none
  | .pairImm _ _ => none
  | .spImm _ => none
  | .spPair _ => none
  | .undefinedSlot _ => none

end Sys2Proof.Machine
end

