-- ==== Sys2Proof/Safety.lean ====
section
/-! DEFINITION. The terms claims are written in: a core that accepts a step, the invariant every step keeps, a successful
run. -/

namespace Sys2Proof.Machine

/-- The core accepts `step()`: it has been reset and is in the running mode (40_dispatch.md R147, 10_state.md R50). -/
def State.Ready (s : State) : Prop := s.phase = .ready ∧ s.mode = .running

/-- The core accepts `step()` and the Bus answers these bytes to its next fetches. -/
def State.Presents (s : State) (bytes : List Byte) : Prop := s.Ready ∧ s.bus.presents s.pc bytes

/-- The invariant: the core accepts steps (10_state.md R45), there are four ticks to a machine cycle (R44), memory keeps
its canonical form, and every recorded fault names an Undefined slot (60_exceptions.md R501). -/
structure State.Inv (s : State) : Prop where
  ready : s.Ready
  ticks : s.t = 4 * s.m
  memory : Memory.wf s.bus.mem = true
  faults : ∀ info ∈ s.faultRecord, info.opcode.toNat ∈ undefinedOpcodes

/-- The Bus gives these transactions, in program order, the answers they carry (40_dispatch.md R151). -/
def Bus.agrees (bus : Bus) : List Transaction → Prop
  | [] => True
  | .rd addr v :: rest => bus.answer addr = v ∧ (bus.afterRead addr).agrees rest
  | .wr addr v :: rest => (bus.afterWrite addr v).agrees rest

/-- No IllegalOpcode is on record: "a run with a recorded IllegalOpcode is never a successful run" (R505). -/
def State.Clean (s : State) : Prop := s.faultRecord = []

/-- `k` steps, stopping at the first fault or refusal: `Host.Core.run` at this machine (`core_run_eq`). -/
def runSteps : Nat → State → Answer
  | 0, s => .next s
  | k + 1, s =>
    match step s with
    | .next u => runSteps k u
    | .fault r => .fault r
    | .refused r => .refused r

/-- A run of `k` steps that stops nowhere and ends without a recorded IllegalOpcode. -/
def SuccessfulRun (k : Nat) (s : State) : Prop := ∃ t : State, runSteps k s = .next t ∧ t.Clean

end Sys2Proof.Machine
end

