-- ==== Sys2Proof/Certificates/Slice0/Obligations.lean ====
section
/-! DEFINITION. The statements for the provers. "The fetched state" of bytes is the state after the core has read them at
`pc` (`State.fetched`): there `exec` runs the instruction, and a step of the state before is `exec` of it
(`StepRunsDecoded`; log 12). A whole result includes what the step returns, a cost in machine cycles, which is the spec's
own choice (D24) and kept in `result` by the model (log 3). The opcode numbers are the spec's own choice (30_encoding.md, D1; log 1), so a statement that gives
one cites no rule for it, but for 0x00 and 0x3E, which the source gives. The bus as plain data is the model's (log 4),
and every statement holds for every map of it, every content and every answer of a device. -/

open Sys2Proof Sys2Proof.Machine

/-! ## Encoding -/

/-- Words written out from 30_encoding.md R119 decode to the instructions they stand for; the opcode numbers are the
spec's own choice (D1; log 1). A sanity statement. -/
def Obligations.DecodeSamples : Prop :=
  decode [0b00000000] = .ok .nop [] ∧
  decode [0b01000001] = .ok .ldB_C [] ∧
  decode [0b00111110, 0x42] = .ok (.ldA_n 0x42) [] ∧
  decode [0b01100110] = .ok .ldH_atHL [] ∧
  decode [0b01110100] = .ok .ldAtHL_H [] ∧
  decode [0b00110110, 0xFF] = .ok (.ldAtHL_n 0xFF) [] ∧
  decode [0b11111010, 0x10, 0xC0] = .ok (.ldA_atNN 0xC010) [] ∧
  decode [0b11110010] = .ok .ldA_atC [] ∧
  decode [0b11100000, 0xFF] = .ok (.ldhAtN_A 0xFF) [] ∧
  decode [0b00111010] = .ok .ldA_atHLDec [] ∧
  decode [0b00000001, 0x34, 0x12] = .ok (.ldBC_nn 0x1234) [] ∧
  decode [0b11111001] = .ok .ldSP_HL [] ∧
  decode [0b01110110, 0x42] = .ok (.undefined 0x76) [0x42] ∧
  decode [0b11001011, 0x37] = .ok (.undefined 0xCB) [0x37] ∧
  decode [0b00100001, 0x00] = .rejected (.missingOperand 0x21) ∧
  decode [] = .rejected .noOpcode

/-- Every byte value decodes to exactly one of an implemented operation and an Undefined slot (30_encoding.md R124), the
Undefined ones being the 165 of R120, and no opcode has two rows. Which 91 opcodes are implemented, and that the other 165
are Undefined, is the spec's own choice (D1, D2; log 1). -/
def Obligations.DecoderTotal : Prop :=
  (∀ op : Byte,
    ((slotOf op).isImplemented = true ∧ op.toNat ∉ undefinedOpcodes) ∨
    (slotOf op = .undefinedSlot ∧ op.toNat ∈ undefinedOpcodes)) ∧
  (implementedRows.map Prod.fst).Nodup ∧ implementedRows.length = 91 ∧
  undefinedOpcodes.Nodup ∧ undefinedOpcodes.length = 165 ∧
  (∀ op rest, slotOf op = .undefinedSlot → decode (op :: rest) = .ok (.undefined op) rest)

/-- The opcode byte of every instruction by its bit fields (30_encoding.md R114, R115 and the field-less opcodes), and
its operand bytes, low byte first (R112, R116). The numbers are the spec's own choice (D1; log 1). -/
def Obligations.EncodingFields : Prop :=
  (∀ i dst src, template i = .regReg dst src → ∃ ddd sss, dst.code = some ddd ∧ src.code = some sss ∧
    encode i = [0b01#2 ++ ddd ++ sss]) ∧
  (∀ i dst n, template i = .regImm dst n → ∃ ddd, dst.code = some ddd ∧
    encode i = [0b00#2 ++ ddd ++ 0b110#3, n]) ∧
  (∀ i dst p, template i = .regInd dst p →
    (p = .hl ∧ ∃ ddd, dst.code = some ddd ∧ encode i = [0b01#2 ++ ddd ++ 0b110#3]) ∨
    (p = .bc ∧ dst = .a ∧ encode i = [0x0A]) ∨ (p = .de ∧ dst = .a ∧ encode i = [0x1A])) ∧
  (∀ i p src, template i = .indReg p src →
    (p = .hl ∧ ∃ sss, src.code = some sss ∧ encode i = [0b01#2 ++ 0b110#3 ++ sss]) ∨
    (p = .bc ∧ src = .a ∧ encode i = [0x02]) ∨ (p = .de ∧ src = .a ∧ encode i = [0x12])) ∧
  (∀ i p n, template i = .indImm p n → p = .hl ∧ encode i = [0x36, n]) ∧
  (∀ i dst nn, template i = .regAbs dst nn → dst = .a ∧ encode i = [0xFA, loByte nn, hiByte nn]) ∧
  (∀ i nn src, template i = .absReg nn src → src = .a ∧ encode i = [0xEA, loByte nn, hiByte nn]) ∧
  (∀ i dst off, template i = .regPageReg dst off → dst = .a ∧ off = .c ∧ encode i = [0xF2]) ∧
  (∀ i off src, template i = .pageRegReg off src → off = .c ∧ src = .a ∧ encode i = [0xE2]) ∧
  (∀ i dst n, template i = .regPageImm dst n → dst = .a ∧ encode i = [0xF0, n]) ∧
  (∀ i n src, template i = .pageImmReg n src → src = .a ∧ encode i = [0xE0, n]) ∧
  (∀ i dst, template i = .loadInc dst → dst = .a ∧ encode i = [0x2A]) ∧
  (∀ i src, template i = .storeInc src → src = .a ∧ encode i = [0x22]) ∧
  (∀ i dst, template i = .loadDec dst → dst = .a ∧ encode i = [0x3A]) ∧
  (∀ i src, template i = .storeDec src → src = .a ∧ encode i = [0x32]) ∧
  (∀ i p nn, template i = .pairImm p nn → encode i = [0b00#2 ++ p.code ++ 0b0001#4, loByte nn, hiByte nn]) ∧
  (∀ i nn, template i = .spImm nn → encode i = [0x31, loByte nn, hiByte nn]) ∧
  (∀ i p, template i = .spPair p → p = .hl ∧ encode i = [0xF9]) ∧
  (∀ i, template i = .nop → encode i = [0x00]) ∧
  (∀ i op, template i = .undefinedSlot op → encode i = [op])

/-- Decoding the bytes of a well-formed instruction, whatever follows them, gives the instruction and what follows, with
every operand at every value. -/
def Obligations.DecodeEncode : Prop :=
  ∀ (i : Instr) (rest : List Byte), i.wf = true → decode (encode i ++ rest) = .ok i rest

/-- What the decoder accepts is a well-formed instruction, and the bytes it consumed are that instruction's bytes: no two
byte strings mean one instruction. -/
def Obligations.EncodeDecode : Prop :=
  ∀ (bytes rest : List Byte) (i : Instr), decode bytes = .ok i rest → i.wf = true ∧ bytes = encode i ++ rest

/-! ## The step -/

/-- A step of a core that accepts one runs the instruction whose bytes the Bus presents at `pc`, in the state in which
exactly those bytes have been fetched (40_dispatch.md R141). That the step fetches the operand bytes too, before `exec`, is
the model's arrangement (log 12): in R145 the operation reads them, in the same order. -/
def Obligations.StepRunsDecoded : Prop :=
  ∀ (s : State) (bytes : List Byte) (i : Instr),
    decode bytes = .ok i [] → s.Presents bytes → step s = exec i (s.fetched bytes)

/-- When a step stops: before the first reset no register holds a value and the read of `pc` faults (10_state.md R50,
D11; log 9); in the halted mode the core has no step and is stuck until reset (40_dispatch.md R147, D4; log 8). Both are
the spec's own decisions. After a reset the core accepts a step from any state. -/
def Obligations.StepStops : Prop :=
  (∀ s : State, s.phase = .constructed → step s = .fault .registerReadBeforeReset) ∧
  (∀ s : State, s.phase = .ready → s.mode = .halted → step s = .fault .stuckHalted) ∧
  (∀ s : State, (hostReset s).Ready)

/-- A core that accepts a step completes it or takes IllegalOpcode, never stops, and accepts the next
(60_exceptions.md R502, R505). -/
def Obligations.StepAlwaysAnswers : Prop :=
  ∀ s : State, s.Ready → ∃ t : State, step s = .next t ∧ t.Ready ∧
    ((∃ c, t.result = some (.cost c)) ∨ (∃ info, t.result = some (.illegalOpcode info)))

/-- The run mode has two values, is running after reset, and no instruction and no step changes it (10_state.md R45). -/
def Obligations.ModeStaysRunning : Prop :=
  (∀ mode : Mode, mode = .running ∨ mode = .halted) ∧
  State.reset.mode = .running ∧ (∀ s : State, (hostReset s).mode = .running) ∧
  (∀ (i : Instr) (s t : State), exec i s = .next t → t.mode = s.mode) ∧
  (∀ (k : Nat) (s t : State), s.mode = .running → runSteps k s = .next t → t.mode = .running)

/-! ## The instructions: what each does in every state, and the step that runs it -/

/-- `NOP` (40_dispatch.md R150): nothing but one machine cycle; the step reads one byte and moves `pc` past it. That the
host gets the cost in machine cycles, and that the model keeps it in `result`, is D24 and log 3; that `exec` is entered
with `pc` past the instruction is log 12. -/
def Obligations.NoOperation : Prop :=
  encode .nop = [0x00] ∧
  (∀ s : State, exec .nop s = .next { s with m := s.m + 1, t := s.t + 4, result := some (.cost 1) }) ∧
  (∀ s : State, s.Presents [0x00] →
    step s = .next { s with pc := s.pc + 1, m := s.m + 1, t := s.t + 4, bus := s.bus.after [.rd s.pc 0x00],
                            result := some (.cost 1) })

/-- `LD r,r'` for all 49 pairs of registers (41_ld8_register.md R201 to R249): the destination takes the source's value,
one machine cycle, no data transaction, nothing else changes. -/
def Obligations.LdRegReg : Prop :=
  ∀ (i : Instr) (dst src : Reg8), template i = .regReg dst src →
    (∀ s : State, exec i s =
      .next { s.setReg dst (s.reg src) with m := s.m + 1, t := s.t + 4, result := some (.cost 1) }) ∧
    (∀ (s : State) (op : Byte), encode i = [op] → s.Presents [op] → step s =
      .next { s.setReg dst (s.reg src) with
        pc := s.pc + 1, m := s.m + 1, t := s.t + 4, bus := s.bus.after [.rd s.pc op], result := some (.cost 1) })

/-- `LD r,n` for the seven registers (41_ld8_register.md R251 to R257): the destination takes the operand byte, two
machine cycles, nothing else changes. -/
def Obligations.LdRegImm : Prop :=
  ∀ (i : Instr) (dst : Reg8) (n : Byte), template i = .regImm dst n →
    (∀ s : State, exec i s =
      .next { s.setReg dst n with m := s.m + 2, t := s.t + 8, result := some (.cost 2) }) ∧
    (∀ (s : State) (op : Byte), encode i = [op, n] → s.Presents [op, n] → step s =
      .next { s.setReg dst n with
        pc := s.pc + 2, m := s.m + 2, t := s.t + 8, bus := s.bus.after [.rd s.pc op, .rd (s.pc + 1) n],
        result := some (.cost 2) })

/-- `LD A,n` (41_ld8_register.md R257), the source's own opcode 0x3E: every state and every operand, the operand at 0x0000
where the opcode stands at 0xFFFF. That the host gets the cost in machine cycles, and that the model keeps it in `result`,
is D24 and log 3; that `exec` is entered with `pc` past the instruction is log 12. -/
def Obligations.LdAImm : Prop :=
  ∀ n : Byte, encode (.ldA_n n) = [0x3E, n] ∧
    (∀ s : State, exec (.ldA_n n) s =
      .next { s with a := n, m := s.m + 2, t := s.t + 8, result := some (.cost 2) }) ∧
    (∀ s : State, s.Presents [0x3E, n] → step s =
      .next { s with a := n, pc := s.pc + 2, m := s.m + 2, t := s.t + 8,
                     bus := s.bus.after [.rd s.pc 0x3E, .rd (s.pc + 1) n], result := some (.cost 2) })

/-- `LD r,(HL)`, `LD A,(BC)` and `LD A,(DE)` (42_ld8_indirect.md R301 to R307, R321, R322): the destination takes the byte
the Bus answers at the pair's old value, also where the destination is half of the pair. -/
def Obligations.LdRegInd : Prop :=
  ∀ (i : Instr) (dst : Reg8) (p : Pair), template i = .regInd dst p →
    (∀ s : State, exec i s =
      .next { s.setReg dst (s.bus.answer (s.pair p)) with
        m := s.m + 2, t := s.t + 8, bus := s.bus.after [.rd (s.pair p) (s.bus.answer (s.pair p))],
        result := some (.cost 2) }) ∧
    (∀ (s : State) (op v : Byte), encode i = [op] → s.Presents [op] →
      (s.bus.after [.rd s.pc op]).answer (s.pair p) = v → step s =
      .next { s.setReg dst v with
        pc := s.pc + 1, m := s.m + 2, t := s.t + 8, bus := s.bus.after [.rd s.pc op, .rd (s.pair p) v],
        result := some (.cost 2) })

/-- `LD (HL),r`, `LD (BC),A` and `LD (DE),A` (42_ld8_indirect.md R311 to R317, R323, R324): one write of the source's value
at the pair's value; no register changes. -/
def Obligations.LdIndReg : Prop :=
  ∀ (i : Instr) (p : Pair) (src : Reg8), template i = .indReg p src →
    (∀ s : State, exec i s =
      .next { s with
        m := s.m + 2, t := s.t + 8, bus := s.bus.afterWrite (s.pair p) (s.reg src), result := some (.cost 2) }) ∧
    (∀ (s : State) (op : Byte), encode i = [op] → s.Presents [op] → step s =
      .next { s with
        pc := s.pc + 1, m := s.m + 2, t := s.t + 8,
        bus := { mem := s.bus.stored (s.pair p) (s.reg src), map := s.bus.map,
                 trace := .wr (s.pair p) (s.reg src) :: .rd s.pc op :: s.bus.trace },
        result := some (.cost 2) })

/-- `LD (HL),n` (42_ld8_indirect.md R318): the operand is fetched, then written at `hl`. -/
def Obligations.LdIndImm : Prop :=
  ∀ (i : Instr) (p : Pair) (n : Byte), template i = .indImm p n →
    (∀ s : State, exec i s =
      .next { s with
        m := s.m + 3, t := s.t + 12, bus := s.bus.afterWrite (s.pair p) n, result := some (.cost 3) }) ∧
    (∀ (s : State) (op : Byte), encode i = [op, n] → s.Presents [op, n] → step s =
      .next { s with
        pc := s.pc + 2, m := s.m + 3, t := s.t + 12,
        bus := { mem := s.bus.stored (s.pair p) n, map := s.bus.map,
                 trace := .wr (s.pair p) n :: .rd (s.pc + 1) n :: .rd s.pc op :: s.bus.trace },
        result := some (.cost 3) })

/-- `LD A,(nn)` and `LD (nn),A` (42_ld8_indirect.md R325, R326): the address is the two operand bytes, low byte first,
at any value. -/
def Obligations.LdAbsolute : Prop :=
  (∀ (nn : Word) (s : State),
    exec (.ldA_atNN nn) s =
      .next { s with
        a := s.bus.answer nn, m := s.m + 4, t := s.t + 16, bus := s.bus.after [.rd nn (s.bus.answer nn)],
        result := some (.cost 4) } ∧
    exec (.ldAtNN_A nn) s =
      .next { s with
        m := s.m + 4, t := s.t + 16, bus := s.bus.afterWrite nn s.a, result := some (.cost 4) }) ∧
  (∀ (s : State) (lo hi v : Byte), s.Presents [0xFA, lo, hi] →
    (s.bus.after [.rd s.pc 0xFA, .rd (s.pc + 1) lo, .rd (s.pc + 2) hi]).answer (mkWord hi lo) = v → step s =
      .next { s with
        a := v, pc := s.pc + 3, m := s.m + 4, t := s.t + 16,
        bus := s.bus.after [.rd s.pc 0xFA, .rd (s.pc + 1) lo, .rd (s.pc + 2) hi, .rd (mkWord hi lo) v],
        result := some (.cost 4) }) ∧
  (∀ (s : State) (lo hi : Byte), s.Presents [0xEA, lo, hi] → step s =
      .next { s with
        pc := s.pc + 3, m := s.m + 4, t := s.t + 16,
        bus := { mem := s.bus.stored (mkWord hi lo) s.a, map := s.bus.map,
                 trace := .wr (mkWord hi lo) s.a :: .rd (s.pc + 2) hi :: .rd (s.pc + 1) lo :: .rd s.pc 0xEA ::
                          s.bus.trace },
        result := some (.cost 4) })

/-- `LD A,(C)` and `LD (C),A` (42_ld8_indirect.md R327, R328): the address is 0xFF00 plus `c`, in 0xFF00 to 0xFFFF. -/
def Obligations.LdPageReg : Prop :=
  (∀ s : State,
    (pageAddress s.c).toNat = 0xFF00 + s.c.toNat ∧
    exec .ldA_atC s =
      .next { s with
        a := s.bus.answer (pageAddress s.c), m := s.m + 2, t := s.t + 8,
        bus := s.bus.after [.rd (pageAddress s.c) (s.bus.answer (pageAddress s.c))], result := some (.cost 2) } ∧
    exec .ldAtC_A s =
      .next { s with
        m := s.m + 2, t := s.t + 8, bus := s.bus.afterWrite (pageAddress s.c) s.a, result := some (.cost 2) }) ∧
  (∀ (s : State) (v : Byte), s.Presents [0xF2] → (s.bus.after [.rd s.pc 0xF2]).answer (pageAddress s.c) = v → step s =
      .next { s with
        a := v, pc := s.pc + 1, m := s.m + 2, t := s.t + 8,
        bus := s.bus.after [.rd s.pc 0xF2, .rd (pageAddress s.c) v], result := some (.cost 2) }) ∧
  (∀ s : State, s.Presents [0xE2] → step s =
      .next { s with
        pc := s.pc + 1, m := s.m + 2, t := s.t + 8,
        bus := { mem := s.bus.stored (pageAddress s.c) s.a, map := s.bus.map,
                 trace := .wr (pageAddress s.c) s.a :: .rd s.pc 0xE2 :: s.bus.trace },
        result := some (.cost 2) })

/-- `LDH A,(n)` and `LDH (n),A` (42_ld8_indirect.md R329, R330): the address is 0xFF00 plus the operand byte. -/
def Obligations.LdPageImm : Prop :=
  (∀ (n : Byte) (s : State),
    (pageAddress n).toNat = 0xFF00 + n.toNat ∧
    exec (.ldhA_atN n) s =
      .next { s with
        a := s.bus.answer (pageAddress n), m := s.m + 3, t := s.t + 12,
        bus := s.bus.after [.rd (pageAddress n) (s.bus.answer (pageAddress n))], result := some (.cost 3) } ∧
    exec (.ldhAtN_A n) s =
      .next { s with
        m := s.m + 3, t := s.t + 12, bus := s.bus.afterWrite (pageAddress n) s.a, result := some (.cost 3) }) ∧
  (∀ (s : State) (n v : Byte), s.Presents [0xF0, n] →
    (s.bus.after [.rd s.pc 0xF0, .rd (s.pc + 1) n]).answer (pageAddress n) = v → step s =
      .next { s with
        a := v, pc := s.pc + 2, m := s.m + 3, t := s.t + 12,
        bus := s.bus.after [.rd s.pc 0xF0, .rd (s.pc + 1) n, .rd (pageAddress n) v], result := some (.cost 3) }) ∧
  (∀ (s : State) (n : Byte), s.Presents [0xE0, n] → step s =
      .next { s with
        pc := s.pc + 2, m := s.m + 3, t := s.t + 12,
        bus := { mem := s.bus.stored (pageAddress n) s.a, map := s.bus.map,
                 trace := .wr (pageAddress n) s.a :: .rd (s.pc + 1) n :: .rd s.pc 0xE0 :: s.bus.trace },
        result := some (.cost 3) })

/-- `LD A,(HL+)` and `LD A,(HL-)` (42_ld8_indirect.md R332, R334): `a` takes the byte at the old `hl`, then `hl` changes by
one modulo 2^16. -/
def Obligations.LdHLStepLoads : Prop :=
  (∀ s : State,
    exec .ldA_atHLInc s =
      .next { s with
        a := s.bus.answer (s.pair .hl), h := hiByte (s.pair .hl + 1), l := loByte (s.pair .hl + 1), m := s.m + 2,
        t := s.t + 8, bus := s.bus.after [.rd (s.pair .hl) (s.bus.answer (s.pair .hl))],
        result := some (.cost 2) } ∧
    exec .ldA_atHLDec s =
      .next { s with
        a := s.bus.answer (s.pair .hl), h := hiByte (s.pair .hl - 1), l := loByte (s.pair .hl - 1), m := s.m + 2,
        t := s.t + 8, bus := s.bus.after [.rd (s.pair .hl) (s.bus.answer (s.pair .hl))],
        result := some (.cost 2) }) ∧
  (∀ (s : State) (v : Byte), s.Presents [0x2A] → (s.bus.after [.rd s.pc 0x2A]).answer (s.pair .hl) = v → step s =
      .next { s with
        a := v, h := hiByte (s.pair .hl + 1), l := loByte (s.pair .hl + 1), pc := s.pc + 1, m := s.m + 2, t := s.t + 8,
        bus := s.bus.after [.rd s.pc 0x2A, .rd (s.pair .hl) v], result := some (.cost 2) }) ∧
  (∀ (s : State) (v : Byte), s.Presents [0x3A] → (s.bus.after [.rd s.pc 0x3A]).answer (s.pair .hl) = v → step s =
      .next { s with
        a := v, h := hiByte (s.pair .hl - 1), l := loByte (s.pair .hl - 1), pc := s.pc + 1, m := s.m + 2, t := s.t + 8,
        bus := s.bus.after [.rd s.pc 0x3A, .rd (s.pair .hl) v], result := some (.cost 2) })

/-- `LD (HL+),A` and `LD (HL-),A` (42_ld8_indirect.md R331, R333): `a` is written at the old `hl`, then `hl` changes by one
modulo 2^16. -/
def Obligations.LdHLStepStores : Prop :=
  (∀ s : State,
    exec .ldAtHLInc_A s =
      .next { s with
        h := hiByte (s.pair .hl + 1), l := loByte (s.pair .hl + 1), m := s.m + 2, t := s.t + 8,
        bus := s.bus.afterWrite (s.pair .hl) s.a, result := some (.cost 2) } ∧
    exec .ldAtHLDec_A s =
      .next { s with
        h := hiByte (s.pair .hl - 1), l := loByte (s.pair .hl - 1), m := s.m + 2, t := s.t + 8,
        bus := s.bus.afterWrite (s.pair .hl) s.a, result := some (.cost 2) }) ∧
  (∀ s : State, s.Presents [0x22] → step s =
      .next { s with
        h := hiByte (s.pair .hl + 1), l := loByte (s.pair .hl + 1), pc := s.pc + 1, m := s.m + 2, t := s.t + 8,
        bus := { mem := s.bus.stored (s.pair .hl) s.a, map := s.bus.map,
                 trace := .wr (s.pair .hl) s.a :: .rd s.pc 0x22 :: s.bus.trace },
        result := some (.cost 2) }) ∧
  (∀ s : State, s.Presents [0x32] → step s =
      .next { s with
        h := hiByte (s.pair .hl - 1), l := loByte (s.pair .hl - 1), pc := s.pc + 1, m := s.m + 2, t := s.t + 8,
        bus := { mem := s.bus.stored (s.pair .hl) s.a, map := s.bus.map,
                 trace := .wr (s.pair .hl) s.a :: .rd s.pc 0x32 :: s.bus.trace },
        result := some (.cost 2) })

/-- Delegation (40_dispatch.md R149): an HL auto-increment or auto-decrement transfer is the plain `(HL)` transfer of the
same direction followed by its own update of `hl`; the cost is 2, not a sum, and the clock ticks once. That the host gets
that cost in machine cycles, and that the model keeps it in `result`, is D24 and log 3. -/
def Obligations.HLDelegation : Prop :=
  ∀ s t : State,
    (exec .ldA_atHL s = .next t →
      exec .ldA_atHLInc s = .next (t.incPair .hl) ∧ exec .ldA_atHLDec s = .next (t.decPair .hl)) ∧
    (exec .ldAtHL_A s = .next t →
      exec .ldAtHLInc_A s = .next (t.incPair .hl) ∧ exec .ldAtHLDec_A s = .next (t.decPair .hl)) ∧
    ((exec .ldA_atHLInc s = .next t ∨ exec .ldA_atHLDec s = .next t ∨ exec .ldAtHLInc_A s = .next t ∨
        exec .ldAtHLDec_A s = .next t) → t.m = s.m + 2 ∧ t.t = s.t + 8 ∧ t.result = some (.cost 2))

/-- `LD BC,nn`, `LD DE,nn` and `LD HL,nn` (43_ld16.md R401 to R403): the second operand byte goes to the high register and
the first to the low one. -/
def Obligations.LdPairImm : Prop :=
  ∀ (i : Instr) (p : Pair) (nn : Word), template i = .pairImm p nn →
    (∀ s : State, exec i s =
      .next { (s.setReg p.hi (hiByte nn)).setReg p.lo (loByte nn) with
        m := s.m + 3, t := s.t + 12, result := some (.cost 3) }) ∧
    (∀ (s : State) (op lo hi : Byte), encode i = [op, lo, hi] → s.Presents [op, lo, hi] → step s =
      .next { (s.setReg p.hi hi).setReg p.lo lo with
        pc := s.pc + 3, m := s.m + 3, t := s.t + 12,
        bus := s.bus.after [.rd s.pc op, .rd (s.pc + 1) lo, .rd (s.pc + 2) hi], result := some (.cost 3) })

/-- `LD SP,nn` and `LD SP,HL` (43_ld16.md R404, R405): `sp` takes the operand, or the register value of `hl` with no memory
read (the spec's own choice, C2, D13; log 17). -/
def Obligations.LdStackPointer : Prop :=
  (∀ (nn : Word) (s : State),
    exec (.ldSP_nn nn) s = .next { s with sp := nn, m := s.m + 3, t := s.t + 12, result := some (.cost 3) } ∧
    exec .ldSP_HL s =
      .next { s with sp := mkWord s.h s.l, m := s.m + 2, t := s.t + 8, result := some (.cost 2) }) ∧
  (∀ (s : State) (lo hi : Byte), s.Presents [0x31, lo, hi] → step s =
      .next { s with
        sp := mkWord hi lo, pc := s.pc + 3, m := s.m + 3, t := s.t + 12,
        bus := s.bus.after [.rd s.pc 0x31, .rd (s.pc + 1) lo, .rd (s.pc + 2) hi], result := some (.cost 3) }) ∧
  (∀ s : State, s.Presents [0xF9] → step s =
      .next { s with
        sp := mkWord s.h s.l, pc := s.pc + 1, m := s.m + 2, t := s.t + 8, bus := s.bus.after [.rd s.pc 0xF9],
        result := some (.cost 2) })

/-- An Undefined slot (60_exceptions.md R501, R504, R505): IllegalOpcode with the opcode and its address, which are the
spec's own choice of information (D12). Its own effect is this entry: the state is the post-fetch state, the condition is
returned and recorded (log 2), and the core accepts the next step at pc0 + 1. 0x76, 0xCB and 0xED are such slots
(30_encoding.md R121, R122). -/
def Obligations.UndefinedSlot : Prop :=
  (∀ (op : Byte) (s : State), exec (.undefined op) s =
    .next { s with
      faultRecord := ⟨op, s.pc - 1⟩ :: s.faultRecord, result := some (.illegalOpcode ⟨op, s.pc - 1⟩) }) ∧
  (∀ (op : Byte) (s : State), op.toNat ∈ undefinedOpcodes → s.Presents [op] → step s =
    .next { s with
      pc := s.pc + 1, bus := s.bus.after [.rd s.pc op], faultRecord := ⟨op, s.pc⟩ :: s.faultRecord,
      result := some (.illegalOpcode ⟨op, s.pc⟩) }) ∧
  0x76 ∈ undefinedOpcodes ∧ 0xCB ∈ undefinedOpcodes ∧ 0xED ∈ undefinedOpcodes

/-- Decode of an Undefined slot (40_dispatch.md R142): IllegalOpcode is signalled, no operation runs, no operand byte is
read, `tick` is not called. That the step answers a next state is log 2, and that the condition stands in `result` is
log 3. -/
def Obligations.UndefinedDecode : Prop :=
  ∀ (s : State) (op : Byte), s.Ready → s.bus.answer s.pc = op → slotOf op = .undefinedSlot →
    ∃ (t : State) (info : IllegalOpcode), step s = .next t ∧ t.result = some (.illegalOpcode info) ∧
      t.bus = s.bus.after [.rd s.pc op] ∧ t.pc = s.pc + 1 ∧ t.m = s.m ∧ t.t = s.t ∧ t.sp = s.sp ∧
      (∀ r, t.reg r = s.reg r)

/-! ## Frames and whole-machine rules -/

/-- What every instruction leaves unchanged: each 8-bit register its template does not write (10_state.md R41), `f` always
(R40), `sp` but in its two loads (R39), `pc` (the increments are the fetches', R38), the mode, the map, the fault record
but in an Undefined slot, and every byte of memory but the one at the address its template stores to. -/
def Obligations.Frame : Prop :=
  ∀ (i : Instr) (s t : State), exec i s = .next t →
    (∀ r, r ∉ (template i).writes → t.reg r = s.reg r) ∧ t.f = s.f ∧ t.pc = s.pc ∧
    ((template i).writesSp = false → t.sp = s.sp) ∧
    t.mode = s.mode ∧ t.phase = s.phase ∧ t.bus.map = s.bus.map ∧
    ((∀ op, i ≠ .undefined op) → t.faultRecord = s.faultRecord) ∧
    (∀ addr, (template i).storeAddress s = some addr →
      ∀ x, x ≠ addr.toNat → Memory.read t.bus.mem x = Memory.read s.bus.mem x) ∧
    ((template i).storeAddress s = none → ∀ x, Memory.read t.bus.mem x = Memory.read s.bus.mem x)

/-- The clock: a completed step adds its template's cost to `m` and four times it to `t` (40_dispatch.md R143, R146;
70_reset_and_hazards.md R609), and the snapshot shows both counters; a step that takes IllegalOpcode adds nothing (R142,
60_exceptions.md R501). A completed step returns its cost in machine cycles, which is the spec's own choice (R144, D24)
and kept in `result` by the model (log 3). -/
def Obligations.ClockStep : Prop :=
  ∀ (s : State) (i : Instr), i.wf = true → s.Presents (encode i) → ∃ t : State, step s = .next t ∧
    (∃ seen, snapshot t = .ok seen ∧ seen.m = t.m ∧ seen.t = t.t) ∧
    (∀ c, (template i).cost = some c →
      t.m = s.m + c ∧ t.t = s.t + 4 * c ∧ t.result = some (.cost c) ∧ 1 ≤ c ∧ c ≤ 4) ∧
    ((template i).cost = none → (∃ op, i = .undefined op) ∧ t.m = s.m ∧ t.t = s.t)

/-- The program counter (10_state.md R38): a step ends at the start address plus the length of the instruction, modulo
2^16, from any address; no operation writes `pc` otherwise. -/
def Obligations.StepPc : Prop :=
  (∀ (s : State) (i : Instr), i.wf = true → s.Presents (encode i) → ∃ t : State, step s = .next t ∧
    t.pc.toNat = (s.pc.toNat + (encode i).length) % 2 ^ 16 ∧ 1 ≤ (encode i).length ∧ (encode i).length ≤ 3) ∧
  (∀ (i : Instr) (s t : State), exec i s = .next t → t.pc = s.pc)

/-- The bus transactions of a step (20_memory.md R91, the spec's own choice of order, D8): the opcode fetch, the operand
fetches in increasing address order, then at most one data transaction, at the address the template reads or writes. -/
def Obligations.TransactionOrder : Prop :=
  ∀ s t : State, s.Ready → step s = .next t → ∃ (i : Instr) (data : List Transaction),
    i.wf = true ∧ s.bus.presents s.pc (encode i) ∧
    t.bus.trace = data ++ (fetchReads s.pc (encode i)).reverse ++ s.bus.trace ∧
    (∀ addr, (template i).loadAddress (s.fetched (encode i)) = some addr → ∃ v, data = [.rd addr v]) ∧
    (∀ addr, (template i).storeAddress (s.fetched (encode i)) = some addr → ∃ v, data = [.wr addr v]) ∧
    ((template i).loadAddress (s.fetched (encode i)) = none →
      (template i).storeAddress (s.fetched (encode i)) = none → data = [])

/-- No instruction reads or writes `f` (10_state.md R40): a step of the same state with another `f` is the same step with
that `f` kept. -/
def Obligations.FlagRegisterUnused : Prop :=
  ∀ (s t : State) (v : Byte), step s = .next t → t.f = s.f ∧ step { s with f := v } = .next { t with f := v }

/-- The clock is read by no instruction (40_dispatch.md R145, 60_exceptions.md R509): a step from other counters does the
same and adds the same. -/
def Obligations.ClockUnread : Prop :=
  ∀ (s t : State) (x y : Nat), step s = .next t →
    step { s with m := s.m + x, t := s.t + y } = .next { t with m := t.m + x, t := t.t + y }

/-- The stack pointer (10_state.md R39): written only by `LD SP,nn` and `LD SP,HL`, and read by no instruction, so a step
from another `sp` differs in `sp` at most. -/
def Obligations.StackPointerUnread : Prop :=
  (∀ (i : Instr) (s t : State), exec i s = .next t → t.sp ≠ s.sp → (∃ nn, i = .ldSP_nn nn) ∨ i = .ldSP_HL) ∧
  (∀ (i : Instr) (s t : State) (v : Word), exec i s = .next t →
    ∃ t' : State, exec i { s with sp := v } = .next t' ∧ { t' with sp := t.sp } = t ∧
      ((template i).writesSp = true → t' = t) ∧ ((template i).writesSp = false → t'.sp = v)) ∧
  (∀ (s t : State) (v : Word), step s = .next t →
    ∃ t' : State, step { s with sp := v } = .next t' ∧ { t' with sp := t.sp } = t)

/-- A step is determined by the core state and the bytes the Bus returns to its reads (40_dispatch.md R151): on another bus
that gives the same answers to the step's transactions, whatever else it holds, the step has the same outcome and issues
the same transactions. -/
def Obligations.DeterminedByAnswers : Prop :=
  ∀ (s t : State) (bus : Bus) (txs : List Transaction), step s = .next t →
    t.bus.trace = txs.reverse ++ s.bus.trace → bus.agrees txs →
    ∃ bus' : Bus, step { s with bus := bus } = .next { t with bus := bus' } ∧
      bus'.trace = txs.reverse ++ bus.trace ∧ bus'.map = bus.map

/-! ## Registers and pairs -/

/-- Writing any integer to a register stores it masked to the register's width (10_state.md R33), an 8-bit register reads
back what was stored (R34), and no other register changes. -/
def Obligations.RegisterWrites : Prop :=
  (∀ (s : State) (r : Reg8) (v : Int), (((s.writeReg r v).reg r).toNat : Int) = v % 256) ∧
  (∀ (s : State) (r q : Reg8) (v : Int), q ≠ r → (s.writeReg r v).reg q = s.reg q) ∧
  (∀ (s : State) (r : Reg8) (v : Int), (s.writeReg r v).pc = s.pc ∧ (s.writeReg r v).sp = s.sp) ∧
  (∀ (s : State) (v : Int), ((s.writePc v).pc.toNat : Int) = v % 65536 ∧ (s.writePc v).sp = s.sp ∧
    ∀ q, (s.writePc v).reg q = s.reg q) ∧
  (∀ (s : State) (v : Int), ((s.writeSp v).sp.toNat : Int) = v % 65536 ∧ (s.writeSp v).pc = s.pc ∧
    ∀ q, (s.writeSp v).reg q = s.reg q)

/-- Pairs (10_state.md R35, R36): a pair is 256 times its high register plus its low register, at every moment; writing
any integer to a pair puts its bits 15 to 8 in the high register and 7 to 0 in the low one, and the pair reads back. -/
def Obligations.PairWrites : Prop :=
  (∀ s : State, (s.pair .bc).toNat = 256 * s.b.toNat + s.c.toNat ∧
    (s.pair .de).toNat = 256 * s.d.toNat + s.e.toNat ∧ (s.pair .hl).toNat = 256 * s.h.toNat + s.l.toNat) ∧
  (∀ (s : State) (p : Pair) (v : Int),
    (((s.writePair p v).pair p).toNat : Int) = v % 65536 ∧
    (((s.writePair p v).reg p.hi).toNat : Int) = v / 256 % 256 ∧
    (((s.writePair p v).reg p.lo).toNat : Int) = v % 256 ∧
    (∀ q, q ≠ p.hi → q ≠ p.lo → (s.writePair p v).reg q = s.reg q))

/-- Pair increment and decrement (10_state.md R37): the low register changes by one modulo 2^8, and the carry or borrow out
of it goes into the high register. -/
def Obligations.PairSteps : Prop :=
  ∀ (s : State) (p : Pair),
    (s.incPair p).reg p.lo = s.reg p.lo + 1 ∧
    (s.incPair p).reg p.hi = (if s.reg p.lo = 0xFF then s.reg p.hi + 1 else s.reg p.hi) ∧
    (s.decPair p).reg p.lo = s.reg p.lo - 1 ∧
    (s.decPair p).reg p.hi = (if s.reg p.lo = 0x00 then s.reg p.hi - 1 else s.reg p.hi) ∧
    (s.incPair p).decPair p = s ∧ (s.decPair p).incPair p = s

/-! ## Memory and the Bus -/

/-- A write to a canonical memory is read back, leaves every other address alone and keeps the form (20_memory.md R85 for
the reference memory of D9; the form is the model's, log 5). -/
def Obligations.MemoryWrites : Prop :=
  ∀ (mem : Memory) (addr : Nat) (v : Byte), Memory.wf mem = true → addr < 2 ^ 16 →
    Memory.read (Memory.write mem addr v) addr = v ∧
    (∀ x, x ≠ addr → Memory.read (Memory.write mem addr v) x = Memory.read mem x) ∧
    Memory.wf (Memory.write mem addr v) = true

/-- Equal memories are equal data: two canonical memories that read alike everywhere are one list (log 5). -/
def Obligations.MemoryCanonical : Prop :=
  ∀ mem mem' : Memory, Memory.wf mem = true → Memory.wf mem' = true →
    (∀ x, Memory.read mem x = Memory.read mem' x) → mem = mem'

/-- The Bus by the kind of an address (20_memory.md R73, R74): RAM reads back what was written, a read-only or fixed
address keeps its answer, and no write outside RAM changes memory. The kinds are the model's choice (log 7). -/
def Obligations.BusPolicy : Prop :=
  ∀ (bus : Bus) (addr : Word) (v : Byte), Memory.wf bus.mem = true →
    (bus.kindAt addr = .ram → (bus.afterWrite addr v).answer addr = v ∧
      ∀ x, x ≠ addr → bus.kindAt x = .ram → (bus.afterWrite addr v).answer x = bus.answer x) ∧
    (bus.kindAt addr ≠ .ram → (bus.afterWrite addr v).mem = bus.mem) ∧
    (bus.kindAt addr = .rom → (bus.afterWrite addr v).answer addr = bus.answer addr) ∧
    (∀ w, bus.kindAt addr = .fixed w → bus.answer addr = w ∧ (bus.afterWrite addr v).answer addr = w)

/-- Words (20_memory.md R76, R77; the order of the two accesses is the spec's own choice, D6, D7): the low byte at the
address, first; the high byte at the next address modulo 2^16; and over RAM a written word is read back. -/
def Obligations.WordAccess : Prop :=
  (∀ (s : State) (addr : Word) (lo hi : Byte), s.bus.answer addr = lo →
    (s.bus.after [.rd addr lo]).answer (addr + 1) = hi →
    s.readWord addr = (mkWord hi lo, { s with bus := s.bus.after [.rd addr lo, .rd (addr + 1) hi] })) ∧
  (∀ (s : State) (addr v : Word),
    (s.writeWord addr v).bus.trace =
      .wr (addr + 1) (hiByte v) :: .wr addr (loByte v) :: s.bus.trace) ∧
  (∀ (s : State) (addr v : Word), Memory.wf s.bus.mem = true → s.bus.kindAt addr = .ram →
    s.bus.kindAt (addr + 1) = .ram → ((s.writeWord addr v).readWord addr).1 = v)

/-- Instruction-fetch coherence (20_memory.md R88, the spec's own choice, D14): what any storing instruction writes to RAM
is what the Bus answers at that address after the step, and where the address is the one after the instruction, it is the
opcode the next step fetches. The bytes of the storing instructions are the spec's own choice (D1; log 1). -/
def Obligations.StoreThenFetch : Prop :=
  ∀ (s : State) (i : Instr) (addr : Word) (v : Byte), i.wf = true → s.Presents (encode i) →
    Memory.wf s.bus.mem = true → (template i).storeAddress (s.fetched (encode i)) = some addr →
    (template i).storedByte (s.fetched (encode i)) = some v → s.bus.kindAt addr = .ram →
    ∃ t : State, step s = .next t ∧ t.bus.answer addr = v ∧ t.pc = (s.fetched (encode i)).pc ∧
      (addr = (s.fetched (encode i)).pc → t.Presents [v])

/-! ## Reset, faults on record, runs, the invariant -/

/-- Reset zeroes every register and both counters, as the snapshot shows, and leaves the pairs zero and the mode running,
from any state (10_state.md R49, 70_reset_and_hazards.md R604). -/
def Obligations.ResetZeroes : Prop :=
  ∀ s : State,
    snapshot (hostReset s) = .ok { a := 0, b := 0, c := 0, d := 0, e := 0, h := 0, l := 0, f := 0, pc := 0, sp := 0,
                                   m := 0, t := 0 } ∧
    (∀ p, (hostReset s).pair p = 0) ∧ (hostReset s).mode = .running

/-- The host's actions (60_exceptions.md R512). Reset issues no transaction and leaves memory as it is
(70_reset_and_hazards.md R601, the spec's own choice, D22), and the fault record stays (60_exceptions.md R505; log 13). The
snapshot has no effect and shows the twelve values of the state it is taken in (10_state.md R48). That before the first
reset it faults is the spec's own choice (10_state.md R50, D11; log 9), and that the first reset of a core constructed on
an empty bus gives `State.reset`, with nothing on its records, is the model's (logs 9, 13, 18). -/
def Obligations.HostActions : Prop :=
  (∀ s : State, hostAct .reset s = .next (hostReset s) ∧ (hostReset s).bus = s.bus ∧
    (hostReset s).faultRecord = s.faultRecord) ∧
  (∀ s : State, hostAct .step s = step s) ∧
  (∀ s : State, s.phase = .ready → hostAct .snapshot s = .next s ∧
    snapshot s = .ok { a := s.a, b := s.b, c := s.c, d := s.d, e := s.e, h := s.h, l := s.l, f := s.f, pc := s.pc,
                       sp := s.sp, m := s.m, t := s.t }) ∧
  (∀ s : State, s.phase = .constructed →
    hostAct .snapshot s = .fault .registerReadBeforeReset ∧ snapshot s = .error .registerReadBeforeReset) ∧
  hostReset (State.constructed { mem := [], map := [], trace := [] }) = State.reset

/-- The fault record (60_exceptions.md R505, the spec's own choice, D12; log 3): a step adds the IllegalOpcode it returns,
or adds nothing and returns a cost; it never removes one. -/
def Obligations.FaultRecordSticky : Prop :=
  ∀ s t : State, step s = .next t →
    (∃ info, t.result = some (.illegalOpcode info) ∧ t.faultRecord = info :: s.faultRecord ∧
      info.pc0 = s.pc ∧ info.opcode = s.bus.answer s.pc ∧ info.opcode.toNat ∈ undefinedOpcodes) ∨
    (∃ c, t.result = some (.cost c) ∧ t.faultRecord = s.faultRecord)

/-- Runs of any length: a core that accepts a step runs `k` of them, `m` grows by at most four a step, no recorded
IllegalOpcode is lost, and where none is on record at the end every step completed and took a cycle at least
(60_exceptions.md R502, R505; 40_dispatch.md R146). -/
def Obligations.RunNeverStops : Prop :=
  ∀ (k : Nat) (s : State), s.Ready → ∃ (t : State) (new : List IllegalOpcode),
    runSteps k s = .next t ∧ t.Ready ∧ s.m ≤ t.m ∧ t.m ≤ s.m + 4 * k ∧
    t.t + 4 * s.m = s.t + 4 * t.m ∧ t.faultRecord = new ++ s.faultRecord ∧ new.length ≤ k ∧
    s.m + k ≤ t.m + new.length

/-- The invariant is kept by every step, from every state that has it: the core accepts steps (10_state.md R45), `t = 4*m`
(R44), memory is canonical (log 5), every recorded fault names an Undefined slot (60_exceptions.md R501). -/
def Obligations.StepKeepsInv : Prop :=
  ∀ s t : State, s.Inv → step s = .next t → t.Inv

/-- The invariant holds right after reset. That memory and the fault record are empty there is the model's choice (logs 5,
18). -/
def Obligations.ResetHasInv : Prop :=
  State.reset.Inv

/-- The invariant is kept by every action of the host, and placing an instruction for the next step keeps it
(60_exceptions.md R512; log 14). -/
def Obligations.HostKeepsInv : Prop :=
  (∀ (action : HostAction) (s t : State), s.Inv → hostAct action s = .next t → t.Inv) ∧
  (∀ (s : State) (nbits w : Nat), s.Inv → (s.withFetchWord nbits w).Inv)

/-- An instruction placed for the next step is the one it runs, from any state, whatever stood there and whatever kind the
addresses had (log 14). -/
def Obligations.PlacedInstructionRuns : Prop :=
  ∀ (s : State) (nbits w : Nat) (i : Instr), Memory.wf s.bus.mem = true → decodeTableWord nbits w = some i →
    ∃ u : State, step (s.withFetchWord nbits w) = exec i u ∧
      u.pc.toNat = (s.pc.toNat + (encode i).length) % 2 ^ 16 ∧ (∀ r, u.reg r = s.reg r) ∧ u.sp = s.sp ∧ u.m = s.m ∧
      u.t = s.t ∧ u.faultRecord = s.faultRecord
end

