-- ==== Sys2Proof/Laws/Bits.lean ====
section
/-! SUPPORT. Splitting a word into its bytes and putting it together again. -/

namespace Sys2Proof

@[simp] theorem hiByte_mkWord (hi lo : Byte) : hiByte (mkWord hi lo) = hi := by
  simp only [hiByte, mkWord]
  ext k hk
  simp only [BitVec.getElem_extractLsb', BitVec.getLsbD_append]
  have h : ¬ 8 + k < 8 := by omega
  simp [h, BitVec.getLsbD_eq_getElem hk]

@[simp] theorem loByte_mkWord (hi lo : Byte) : loByte (mkWord hi lo) = lo := by
  simp only [loByte, mkWord]
  ext k hk
  simp only [BitVec.getElem_extractLsb', BitVec.getLsbD_append]
  have h : 0 + k < 8 := by omega
  simp [hk]

@[simp] theorem mkWord_hiByte_loByte (w : Word) : mkWord (hiByte w) (loByte w) = w := by
  simp only [hiByte, loByte, mkWord]
  ext k hk
  simp only [BitVec.getElem_append, BitVec.getElem_extractLsb']
  split
  · rw [BitVec.getLsbD_eq_getElem (by omega)]; simp
  · rw [BitVec.getLsbD_eq_getElem (by omega)]; congr 1; omega

end Sys2Proof
end

