-- ==== Sys2Proof/Laws/Decode.lean ====
section
/-! SUPPORT. What looking a slot up in the Operation Table can answer, said once. -/

namespace Sys2Proof

/-- A lookup answers a listed row of the opcode, or that the opcode is not listed. -/
theorem findSlot_cases (rows : List (Nat × Slot)) (op : Nat) :
    (op, findSlot rows op) ∈ rows ∨ (op ∉ rows.map Prod.fst ∧ findSlot rows op = .undefinedSlot) := by
  induction rows with
  | nil => exact .inr ⟨List.not_mem_nil, rfl⟩
  | cons row rest ih =>
    obtain ⟨k, slot⟩ := row
    by_cases h : k = op
    · subst h
      simp [findSlot]
    · rw [findSlot, if_neg h]
      rcases ih with hm | ⟨hn, he⟩
      · exact .inl (List.mem_cons_of_mem _ hm)
      · exact .inr ⟨by simpa [hn] using Ne.symm h, he⟩

/-- An opcode that no row lists has an Undefined slot. -/
theorem slotOf_of_not_listed {op : Byte} (h : op.toNat ∉ implementedRows.map Prod.fst) : slotOf op = .undefinedSlot := by
  rcases findSlot_cases implementedRows op.toNat with hm | ⟨_, he⟩
  · exact absurd (List.mem_map_of_mem hm) h
  · exact he

/-- A decoding consumes an opcode and the operand bytes of its slot. -/
theorem decodeOperands_length {op : Byte} {slot : Slot} {bytes rest : List Byte} {i : Instr}
    (h : decodeOperands op slot bytes = .ok i rest) : bytes.length + 1 = slot.length + rest.length := by
  cases slot with
  | undefinedSlot => cases h; simp [Slot.length, Nat.add_comm]
  | f1 j => cases h; simp [Slot.length, Nat.add_comm]
  | f2 withByte =>
    match bytes, h with
    | n :: tail, h => cases h; simp [Slot.length]; omega
  | f3 withWord =>
    match bytes, h with
    | lo :: hi :: tail, h => cases h; simp [Slot.length]; omega

end Sys2Proof
end

