-- ==== Sys2Proof/Laws/Memory.lean ====
section
/-! SUPPORT. The memory: reading after writing, and the canonical form every write keeps. -/

namespace Sys2Proof.Machine

/-- The canonical form of a nonempty list, as a conjunction. -/
theorem wfFrom_cons (lo k : Nat) (v : Byte) (rest : Memory) :
    Memory.wfFrom lo ((k, v) :: rest) = true ↔
      lo ≤ k ∧ k < 2 ^ 16 ∧ v ≠ Config.unlistedByte ∧ Memory.wfFrom (k + 1) rest = true := by
  simp [Memory.wfFrom, and_assoc]

/-- A canonical list from an address on is canonical from every lower address on. -/
theorem wfFrom_mono {lo lo' : Nat} (h : lo' ≤ lo) (mem : Memory) (hw : Memory.wfFrom lo mem = true) :
    Memory.wfFrom lo' mem = true := by
  cases mem with
  | nil => rfl
  | cons cell rest =>
    obtain ⟨k, v⟩ := cell
    rw [wfFrom_cons] at hw ⊢
    exact ⟨by omega, hw.2⟩

/-- Nothing is listed below the bound of a canonical list. -/
theorem read_below {lo x : Nat} (hx : x < lo) (mem : Memory) (hw : Memory.wfFrom lo mem = true) :
    Memory.read mem x = Config.unlistedByte := by
  induction mem generalizing lo with
  | nil => rfl
  | cons cell rest ih =>
    obtain ⟨k, v⟩ := cell
    rw [wfFrom_cons] at hw
    rw [Memory.read, if_neg (by omega)]
    exact ih (by omega) hw.2.2.2

/-- Putting a cell in front reads as that cell, then as the rest. -/
theorem read_memory_cons (addr x : Nat) (v : Byte) (rest : Memory)
    (h : Memory.read rest addr = Config.unlistedByte) :
    Memory.read (Memory.cons addr v rest) x = if addr = x then v else Memory.read rest x := by
  unfold Memory.cons
  split
  · rename_i hv
    split
    · rename_i hx; subst hx; rw [h, hv]
    · rfl
  · rfl

/-- Putting a cell in front leaves every other address alone. -/
theorem read_memory_cons_ne {addr x : Nat} (hx : x ≠ addr) (v : Byte) (rest : Memory) :
    Memory.read (Memory.cons addr v rest) x = Memory.read rest x := by
  unfold Memory.cons
  split
  · rfl
  · rw [Memory.read, if_neg (Ne.symm hx)]

/-- A write leaves every other address alone, in any list. -/
theorem read_write_ne {addr x : Nat} (hx : x ≠ addr) (v : Byte) (mem : Memory) :
    Memory.read (Memory.write mem addr v) x = Memory.read mem x := by
  induction mem with
  | nil => exact read_memory_cons_ne hx v []
  | cons cell rest ih =>
    obtain ⟨k, w⟩ := cell
    rw [Memory.write]
    split
    · exact read_memory_cons_ne hx v _
    · split
      · rename_i hk
        rw [read_memory_cons_ne hx, Memory.read, if_neg (by omega)]
      · rw [Memory.read, Memory.read, ih]

/-- A written byte is read back. -/
theorem read_write_same {lo : Nat} (addr : Nat) (v : Byte) (mem : Memory) (hw : Memory.wfFrom lo mem = true) :
    Memory.read (Memory.write mem addr v) addr = v := by
  induction mem generalizing lo with
  | nil => rw [Memory.write, read_memory_cons _ _ _ _ rfl, if_pos rfl]
  | cons cell rest ih =>
    obtain ⟨k, w⟩ := cell
    have hr := (wfFrom_cons lo k w rest).1 hw
    rw [Memory.write]
    split
    · rename_i hlt
      have hk : Memory.wfFrom k ((k, w) :: rest) = true := (wfFrom_cons k k w rest).2 ⟨Nat.le_refl k, hr.2⟩
      rw [read_memory_cons _ _ _ _ (read_below hlt _ hk), if_pos rfl]
    · split
      · rename_i hk
        rw [read_memory_cons _ _ _ _ (read_below (by omega) rest hr.2.2.2), if_pos rfl]
      · rename_i hne
        rw [Memory.read, if_neg hne]
        exact ih hr.2.2.2

/-- Putting a cell in front of a list canonical above it keeps the form. -/
theorem wfFrom_memory_cons {lo addr : Nat} (hlo : lo ≤ addr) (ha : addr < 2 ^ 16) (v : Byte) (rest : Memory)
    (hw : Memory.wfFrom (addr + 1) rest = true) : Memory.wfFrom lo (Memory.cons addr v rest) = true := by
  unfold Memory.cons
  split
  · exact wfFrom_mono (by omega) rest hw
  · rename_i hv
    exact (wfFrom_cons lo addr v rest).2 ⟨hlo, ha, hv, hw⟩

/-- A write keeps the canonical form. -/
theorem wfFrom_write {lo addr : Nat} (hlo : lo ≤ addr) (ha : addr < 2 ^ 16) (v : Byte) (mem : Memory)
    (hw : Memory.wfFrom lo mem = true) : Memory.wfFrom lo (Memory.write mem addr v) = true := by
  induction mem generalizing lo with
  | nil => exact wfFrom_memory_cons hlo ha v [] rfl
  | cons cell rest ih =>
    obtain ⟨k, w⟩ := cell
    have hr := (wfFrom_cons lo k w rest).1 hw
    rw [Memory.write]
    split
    · rename_i hlt
      exact wfFrom_memory_cons hlo ha v _ ((wfFrom_cons _ k w rest).2 ⟨hlt, hr.2⟩)
    · split
      · rename_i hk
        subst hk
        exact wfFrom_memory_cons hlo ha v rest hr.2.2.2
      · exact (wfFrom_cons lo k w _).2 ⟨hr.1, hr.2.1, hr.2.2.1, ih (by omega) hr.2.2.2⟩

/-- The memory after a bus write keeps the canonical form, whatever the kind of the address. -/
theorem wf_stored (bus : Bus) (addr : Word) (v : Byte) (hw : Memory.wf bus.mem = true) :
    Memory.wf (bus.stored addr v) = true := by
  unfold Bus.stored
  split
  · exact wfFrom_write (Nat.zero_le _) addr.isLt v _ hw
  · exact hw
  · exact hw
  · exact hw

/-- A bus write leaves every other byte of memory alone. -/
theorem read_stored_ne (bus : Bus) {addr : Word} {x : Nat} (hx : x ≠ addr.toNat) (v : Byte) :
    Memory.read (bus.stored addr v) x = Memory.read bus.mem x := by
  unfold Bus.stored
  split
  · exact read_write_ne hx v _
  · rfl
  · rfl
  · rfl

/-- Placing a byte keeps the canonical form. -/
theorem wf_place (bus : Bus) (addr : Word) (v : Byte) (hw : Memory.wf bus.mem = true) :
    Memory.wf (bus.place addr v).mem = true :=
  wfFrom_write (Nat.zero_le _) addr.isLt v _ hw

/-- Placing bytes keeps the canonical form. -/
theorem wf_placeAll (bytes : List Byte) (bus : Bus) (addr : Word) (hw : Memory.wf bus.mem = true) :
    Memory.wf (bus.placeAll addr bytes).mem = true := by
  induction bytes generalizing bus addr with
  | nil => exact hw
  | cons v rest ih => exact ih _ _ (wf_place bus addr v hw)

end Sys2Proof.Machine
end

