-- ==== Sys2Proof/Laws/State.lean ====
section
/-! SUPPORT. One lemma per field per update of the state, so that no proof unfolds a record update. -/

namespace Sys2Proof.Machine

variable (s : State) (r q : Reg8) (v : Byte) (w : Word) (n : Nat) (bus : Bus)

/-! Writing an 8-bit register. -/

@[simp] theorem setReg_pc : (s.setReg r v).pc = s.pc := by cases r <;> rfl
@[simp] theorem setReg_sp : (s.setReg r v).sp = s.sp := by cases r <;> rfl
@[simp] theorem setReg_m : (s.setReg r v).m = s.m := by cases r <;> rfl
@[simp] theorem setReg_t : (s.setReg r v).t = s.t := by cases r <;> rfl
@[simp] theorem setReg_mode : (s.setReg r v).mode = s.mode := by cases r <;> rfl
@[simp] theorem setReg_phase : (s.setReg r v).phase = s.phase := by cases r <;> rfl
@[simp] theorem setReg_bus : (s.setReg r v).bus = s.bus := by cases r <;> rfl
@[simp] theorem setReg_faultRecord : (s.setReg r v).faultRecord = s.faultRecord := by cases r <;> rfl
@[simp] theorem setReg_result : (s.setReg r v).result = s.result := by cases r <;> rfl

@[simp] theorem reg_setReg_same : (s.setReg r v).reg r = v := by cases r <;> rfl

theorem reg_setReg_ne (h : q ≠ r) : (s.setReg r v).reg q = s.reg q := by
  cases r <;> cases q <;> first | rfl | exact absurd rfl h

@[simp] theorem setReg_reg_same : s.setReg r (s.reg r) = s := by cases r <;> rfl

theorem setReg_a_of_ne (h : r ≠ .a) : (s.setReg r v).a = s.a := by cases r <;> first | rfl | exact absurd rfl h
theorem setReg_b_of_ne (h : r ≠ .b) : (s.setReg r v).b = s.b := by cases r <;> first | rfl | exact absurd rfl h
theorem setReg_c_of_ne (h : r ≠ .c) : (s.setReg r v).c = s.c := by cases r <;> first | rfl | exact absurd rfl h
theorem setReg_d_of_ne (h : r ≠ .d) : (s.setReg r v).d = s.d := by cases r <;> first | rfl | exact absurd rfl h
theorem setReg_e_of_ne (h : r ≠ .e) : (s.setReg r v).e = s.e := by cases r <;> first | rfl | exact absurd rfl h
theorem setReg_h_of_ne (h : r ≠ .h) : (s.setReg r v).h = s.h := by cases r <;> first | rfl | exact absurd rfl h
theorem setReg_l_of_ne (h : r ≠ .l) : (s.setReg r v).l = s.l := by cases r <;> first | rfl | exact absurd rfl h
theorem setReg_f_of_ne (h : r ≠ .f) : (s.setReg r v).f = s.f := by cases r <;> first | rfl | exact absurd rfl h

/-! Writing a named register. -/

@[simp] theorem a_setReg_a : (s.setReg .a v).a = v := rfl
@[simp] theorem b_setReg_a : (s.setReg .a v).b = s.b := rfl
@[simp] theorem c_setReg_a : (s.setReg .a v).c = s.c := rfl
@[simp] theorem d_setReg_a : (s.setReg .a v).d = s.d := rfl
@[simp] theorem e_setReg_a : (s.setReg .a v).e = s.e := rfl
@[simp] theorem h_setReg_a : (s.setReg .a v).h = s.h := rfl
@[simp] theorem l_setReg_a : (s.setReg .a v).l = s.l := rfl
@[simp] theorem f_setReg_a : (s.setReg .a v).f = s.f := rfl
@[simp] theorem a_setReg_b : (s.setReg .b v).a = s.a := rfl
@[simp] theorem b_setReg_b : (s.setReg .b v).b = v := rfl
@[simp] theorem c_setReg_b : (s.setReg .b v).c = s.c := rfl
@[simp] theorem d_setReg_b : (s.setReg .b v).d = s.d := rfl
@[simp] theorem e_setReg_b : (s.setReg .b v).e = s.e := rfl
@[simp] theorem h_setReg_b : (s.setReg .b v).h = s.h := rfl
@[simp] theorem l_setReg_b : (s.setReg .b v).l = s.l := rfl
@[simp] theorem f_setReg_b : (s.setReg .b v).f = s.f := rfl
@[simp] theorem a_setReg_c : (s.setReg .c v).a = s.a := rfl
@[simp] theorem b_setReg_c : (s.setReg .c v).b = s.b := rfl
@[simp] theorem c_setReg_c : (s.setReg .c v).c = v := rfl
@[simp] theorem d_setReg_c : (s.setReg .c v).d = s.d := rfl
@[simp] theorem e_setReg_c : (s.setReg .c v).e = s.e := rfl
@[simp] theorem h_setReg_c : (s.setReg .c v).h = s.h := rfl
@[simp] theorem l_setReg_c : (s.setReg .c v).l = s.l := rfl
@[simp] theorem f_setReg_c : (s.setReg .c v).f = s.f := rfl
@[simp] theorem a_setReg_d : (s.setReg .d v).a = s.a := rfl
@[simp] theorem b_setReg_d : (s.setReg .d v).b = s.b := rfl
@[simp] theorem c_setReg_d : (s.setReg .d v).c = s.c := rfl
@[simp] theorem d_setReg_d : (s.setReg .d v).d = v := rfl
@[simp] theorem e_setReg_d : (s.setReg .d v).e = s.e := rfl
@[simp] theorem h_setReg_d : (s.setReg .d v).h = s.h := rfl
@[simp] theorem l_setReg_d : (s.setReg .d v).l = s.l := rfl
@[simp] theorem f_setReg_d : (s.setReg .d v).f = s.f := rfl
@[simp] theorem a_setReg_e : (s.setReg .e v).a = s.a := rfl
@[simp] theorem b_setReg_e : (s.setReg .e v).b = s.b := rfl
@[simp] theorem c_setReg_e : (s.setReg .e v).c = s.c := rfl
@[simp] theorem d_setReg_e : (s.setReg .e v).d = s.d := rfl
@[simp] theorem e_setReg_e : (s.setReg .e v).e = v := rfl
@[simp] theorem h_setReg_e : (s.setReg .e v).h = s.h := rfl
@[simp] theorem l_setReg_e : (s.setReg .e v).l = s.l := rfl
@[simp] theorem f_setReg_e : (s.setReg .e v).f = s.f := rfl
@[simp] theorem a_setReg_h : (s.setReg .h v).a = s.a := rfl
@[simp] theorem b_setReg_h : (s.setReg .h v).b = s.b := rfl
@[simp] theorem c_setReg_h : (s.setReg .h v).c = s.c := rfl
@[simp] theorem d_setReg_h : (s.setReg .h v).d = s.d := rfl
@[simp] theorem e_setReg_h : (s.setReg .h v).e = s.e := rfl
@[simp] theorem h_setReg_h : (s.setReg .h v).h = v := rfl
@[simp] theorem l_setReg_h : (s.setReg .h v).l = s.l := rfl
@[simp] theorem f_setReg_h : (s.setReg .h v).f = s.f := rfl
@[simp] theorem a_setReg_l : (s.setReg .l v).a = s.a := rfl
@[simp] theorem b_setReg_l : (s.setReg .l v).b = s.b := rfl
@[simp] theorem c_setReg_l : (s.setReg .l v).c = s.c := rfl
@[simp] theorem d_setReg_l : (s.setReg .l v).d = s.d := rfl
@[simp] theorem e_setReg_l : (s.setReg .l v).e = s.e := rfl
@[simp] theorem h_setReg_l : (s.setReg .l v).h = s.h := rfl
@[simp] theorem l_setReg_l : (s.setReg .l v).l = v := rfl
@[simp] theorem f_setReg_l : (s.setReg .l v).f = s.f := rfl
@[simp] theorem a_setReg_f : (s.setReg .f v).a = s.a := rfl
@[simp] theorem b_setReg_f : (s.setReg .f v).b = s.b := rfl
@[simp] theorem c_setReg_f : (s.setReg .f v).c = s.c := rfl
@[simp] theorem d_setReg_f : (s.setReg .f v).d = s.d := rfl
@[simp] theorem e_setReg_f : (s.setReg .f v).e = s.e := rfl
@[simp] theorem h_setReg_f : (s.setReg .f v).h = s.h := rfl
@[simp] theorem l_setReg_f : (s.setReg .f v).l = s.l := rfl
@[simp] theorem f_setReg_f : (s.setReg .f v).f = v := rfl

/-! Reading a named register. -/

@[simp] theorem reg_a : s.reg .a = s.a := rfl
@[simp] theorem reg_b : s.reg .b = s.b := rfl
@[simp] theorem reg_c : s.reg .c = s.c := rfl
@[simp] theorem reg_d : s.reg .d = s.d := rfl
@[simp] theorem reg_e : s.reg .e = s.e := rfl
@[simp] theorem reg_h : s.reg .h = s.h := rfl
@[simp] theorem reg_l : s.reg .l = s.l := rfl
@[simp] theorem reg_f : s.reg .f = s.f := rfl

/-! The other updates leave every 8-bit register alone. -/

@[simp] theorem reg_with_pc : ({ s with pc := w } : State).reg r = s.reg r := by cases r <;> rfl
@[simp] theorem reg_with_sp : ({ s with sp := w } : State).reg r = s.reg r := by cases r <;> rfl
@[simp] theorem reg_with_bus : ({ s with bus := bus } : State).reg r = s.reg r := by cases r <;> rfl
@[simp] theorem reg_tick : (s.tick n).reg r = s.reg r := by cases r <;> rfl
@[simp] theorem reg_with_result (x : Option StepResult) : ({ s with result := x } : State).reg r = s.reg r := by
  cases r <;> rfl
@[simp] theorem reg_writeByte : (s.writeByte w v).reg r = s.reg r := by cases r <;> rfl
@[simp] theorem reg_readByte : (s.readByte w).2.reg r = s.reg r := by cases r <;> rfl
@[simp] theorem reg_fetched (bytes : List Byte) : (s.fetched bytes).reg r = s.reg r := by cases r <;> rfl
@[simp] theorem pair_fetched (bytes : List Byte) (p : Pair) : (s.fetched bytes).pair p = s.pair p := by cases p <;> rfl

/-- Completing an operation leaves the 8-bit registers as the operation left them. -/
theorem reg_with_done (u : State) (m t : Nat) (bus : Bus) (x : Option StepResult) :
    ({ u with m := m, t := t, bus := bus, result := x } : State).reg r = u.reg r := by cases r <;> rfl

/-- The same where the operation issued no transaction. -/
theorem reg_with_clock (u : State) (m t : Nat) (x : Option StepResult) :
    ({ u with m := m, t := t, result := x } : State).reg r = u.reg r := by cases r <;> rfl

/-- Taking IllegalOpcode leaves the 8-bit registers alone. -/
theorem reg_with_fault (u : State) (record : List IllegalOpcode) (x : Option StepResult) :
    ({ u with faultRecord := record, result := x } : State).reg r = u.reg r := by cases r <;> rfl

/-! The clock. -/

@[simp] theorem tick_a : (s.tick n).a = s.a := rfl
@[simp] theorem tick_b : (s.tick n).b = s.b := rfl
@[simp] theorem tick_c : (s.tick n).c = s.c := rfl
@[simp] theorem tick_d : (s.tick n).d = s.d := rfl
@[simp] theorem tick_e : (s.tick n).e = s.e := rfl
@[simp] theorem tick_h : (s.tick n).h = s.h := rfl
@[simp] theorem tick_l : (s.tick n).l = s.l := rfl
@[simp] theorem tick_f : (s.tick n).f = s.f := rfl
@[simp] theorem tick_pc : (s.tick n).pc = s.pc := rfl
@[simp] theorem tick_sp : (s.tick n).sp = s.sp := rfl
@[simp] theorem tick_mode : (s.tick n).mode = s.mode := rfl
@[simp] theorem tick_phase : (s.tick n).phase = s.phase := rfl
@[simp] theorem tick_bus : (s.tick n).bus = s.bus := rfl
@[simp] theorem tick_faultRecord : (s.tick n).faultRecord = s.faultRecord := rfl
@[simp] theorem tick_result : (s.tick n).result = s.result := rfl
@[simp] theorem tick_m : (s.tick n).m = s.m + n := rfl
@[simp] theorem tick_t : (s.tick n).t = s.t + 4 * n := rfl

/-! The stack pointer. -/

@[simp] theorem setSp_a : (s.setSp w).a = s.a := rfl
@[simp] theorem setSp_b : (s.setSp w).b = s.b := rfl
@[simp] theorem setSp_c : (s.setSp w).c = s.c := rfl
@[simp] theorem setSp_d : (s.setSp w).d = s.d := rfl
@[simp] theorem setSp_e : (s.setSp w).e = s.e := rfl
@[simp] theorem setSp_h : (s.setSp w).h = s.h := rfl
@[simp] theorem setSp_l : (s.setSp w).l = s.l := rfl
@[simp] theorem setSp_f : (s.setSp w).f = s.f := rfl
@[simp] theorem setSp_pc : (s.setSp w).pc = s.pc := rfl
@[simp] theorem setSp_m : (s.setSp w).m = s.m := rfl
@[simp] theorem setSp_t : (s.setSp w).t = s.t := rfl
@[simp] theorem setSp_mode : (s.setSp w).mode = s.mode := rfl
@[simp] theorem setSp_phase : (s.setSp w).phase = s.phase := rfl
@[simp] theorem setSp_bus : (s.setSp w).bus = s.bus := rfl
@[simp] theorem setSp_faultRecord : (s.setSp w).faultRecord = s.faultRecord := rfl
@[simp] theorem setSp_result : (s.setSp w).result = s.result := rfl
@[simp] theorem setSp_sp : (s.setSp w).sp = w := rfl
@[simp] theorem reg_setSp : (s.setSp w).reg r = s.reg r := by cases r <;> rfl

/-! The bus transactions. -/

@[simp] theorem readByte_a : (s.readByte w).2.a = s.a := rfl
@[simp] theorem readByte_b : (s.readByte w).2.b = s.b := rfl
@[simp] theorem readByte_c : (s.readByte w).2.c = s.c := rfl
@[simp] theorem readByte_d : (s.readByte w).2.d = s.d := rfl
@[simp] theorem readByte_e : (s.readByte w).2.e = s.e := rfl
@[simp] theorem readByte_h : (s.readByte w).2.h = s.h := rfl
@[simp] theorem readByte_l : (s.readByte w).2.l = s.l := rfl
@[simp] theorem readByte_f : (s.readByte w).2.f = s.f := rfl
@[simp] theorem readByte_pc : (s.readByte w).2.pc = s.pc := rfl
@[simp] theorem readByte_sp : (s.readByte w).2.sp = s.sp := rfl
@[simp] theorem readByte_m : (s.readByte w).2.m = s.m := rfl
@[simp] theorem readByte_t : (s.readByte w).2.t = s.t := rfl
@[simp] theorem readByte_mode : (s.readByte w).2.mode = s.mode := rfl
@[simp] theorem readByte_phase : (s.readByte w).2.phase = s.phase := rfl
@[simp] theorem readByte_faultRecord : (s.readByte w).2.faultRecord = s.faultRecord := rfl
@[simp] theorem readByte_result : (s.readByte w).2.result = s.result := rfl
@[simp] theorem writeByte_a : (s.writeByte w v).a = s.a := rfl
@[simp] theorem writeByte_b : (s.writeByte w v).b = s.b := rfl
@[simp] theorem writeByte_c : (s.writeByte w v).c = s.c := rfl
@[simp] theorem writeByte_d : (s.writeByte w v).d = s.d := rfl
@[simp] theorem writeByte_e : (s.writeByte w v).e = s.e := rfl
@[simp] theorem writeByte_h : (s.writeByte w v).h = s.h := rfl
@[simp] theorem writeByte_l : (s.writeByte w v).l = s.l := rfl
@[simp] theorem writeByte_f : (s.writeByte w v).f = s.f := rfl
@[simp] theorem writeByte_pc : (s.writeByte w v).pc = s.pc := rfl
@[simp] theorem writeByte_sp : (s.writeByte w v).sp = s.sp := rfl
@[simp] theorem writeByte_m : (s.writeByte w v).m = s.m := rfl
@[simp] theorem writeByte_t : (s.writeByte w v).t = s.t := rfl
@[simp] theorem writeByte_mode : (s.writeByte w v).mode = s.mode := rfl
@[simp] theorem writeByte_phase : (s.writeByte w v).phase = s.phase := rfl
@[simp] theorem writeByte_faultRecord : (s.writeByte w v).faultRecord = s.faultRecord := rfl
@[simp] theorem writeByte_result : (s.writeByte w v).result = s.result := rfl
@[simp] theorem readByte_bus : (s.readByte w).2.bus = s.bus.afterRead w := rfl
@[simp] theorem readByte_value : (s.readByte w).1 = s.bus.answer w := rfl
@[simp] theorem writeByte_bus : (s.writeByte w v).bus = s.bus.afterWrite w v := rfl

/-! Fetched bytes. -/

@[simp] theorem fetched_a (bytes : List Byte) : (s.fetched bytes).a = s.a := rfl
@[simp] theorem fetched_b (bytes : List Byte) : (s.fetched bytes).b = s.b := rfl
@[simp] theorem fetched_c (bytes : List Byte) : (s.fetched bytes).c = s.c := rfl
@[simp] theorem fetched_d (bytes : List Byte) : (s.fetched bytes).d = s.d := rfl
@[simp] theorem fetched_e (bytes : List Byte) : (s.fetched bytes).e = s.e := rfl
@[simp] theorem fetched_h (bytes : List Byte) : (s.fetched bytes).h = s.h := rfl
@[simp] theorem fetched_l (bytes : List Byte) : (s.fetched bytes).l = s.l := rfl
@[simp] theorem fetched_f (bytes : List Byte) : (s.fetched bytes).f = s.f := rfl
@[simp] theorem fetched_sp (bytes : List Byte) : (s.fetched bytes).sp = s.sp := rfl
@[simp] theorem fetched_m (bytes : List Byte) : (s.fetched bytes).m = s.m := rfl
@[simp] theorem fetched_t (bytes : List Byte) : (s.fetched bytes).t = s.t := rfl
@[simp] theorem fetched_mode (bytes : List Byte) : (s.fetched bytes).mode = s.mode := rfl
@[simp] theorem fetched_phase (bytes : List Byte) : (s.fetched bytes).phase = s.phase := rfl
@[simp] theorem fetched_faultRecord (bytes : List Byte) : (s.fetched bytes).faultRecord = s.faultRecord := rfl
@[simp] theorem fetched_result (bytes : List Byte) : (s.fetched bytes).result = s.result := rfl
@[simp] theorem fetched_pc (bytes : List Byte) : (s.fetched bytes).pc = s.pc + BitVec.ofNat 16 bytes.length := rfl
@[simp] theorem fetched_bus (bytes : List Byte) :
    (s.fetched bytes).bus = s.bus.after (fetchReads s.pc bytes) := rfl

/-! Register pairs. -/

@[simp] theorem setPair_pc (p : Pair) : (s.setPair p w).pc = s.pc := by simp [State.setPair]
@[simp] theorem setPair_sp (p : Pair) : (s.setPair p w).sp = s.sp := by simp [State.setPair]
@[simp] theorem setPair_m (p : Pair) : (s.setPair p w).m = s.m := by simp [State.setPair]
@[simp] theorem setPair_t (p : Pair) : (s.setPair p w).t = s.t := by simp [State.setPair]
@[simp] theorem setPair_mode (p : Pair) : (s.setPair p w).mode = s.mode := by simp [State.setPair]
@[simp] theorem setPair_phase (p : Pair) : (s.setPair p w).phase = s.phase := by simp [State.setPair]
@[simp] theorem setPair_bus (p : Pair) : (s.setPair p w).bus = s.bus := by simp [State.setPair]
@[simp] theorem setPair_faultRecord (p : Pair) : (s.setPair p w).faultRecord = s.faultRecord := by simp [State.setPair]
@[simp] theorem setPair_result (p : Pair) : (s.setPair p w).result = s.result := by simp [State.setPair]
@[simp] theorem a_setPair_bc : (s.setPair .bc w).a = s.a := rfl
@[simp] theorem b_setPair_bc : (s.setPair .bc w).b = hiByte w := rfl
@[simp] theorem c_setPair_bc : (s.setPair .bc w).c = loByte w := rfl
@[simp] theorem d_setPair_bc : (s.setPair .bc w).d = s.d := rfl
@[simp] theorem e_setPair_bc : (s.setPair .bc w).e = s.e := rfl
@[simp] theorem h_setPair_bc : (s.setPair .bc w).h = s.h := rfl
@[simp] theorem l_setPair_bc : (s.setPair .bc w).l = s.l := rfl
@[simp] theorem f_setPair_bc : (s.setPair .bc w).f = s.f := rfl
@[simp] theorem pair_bc : s.pair .bc = mkWord s.b s.c := rfl
@[simp] theorem a_setPair_de : (s.setPair .de w).a = s.a := rfl
@[simp] theorem b_setPair_de : (s.setPair .de w).b = s.b := rfl
@[simp] theorem c_setPair_de : (s.setPair .de w).c = s.c := rfl
@[simp] theorem d_setPair_de : (s.setPair .de w).d = hiByte w := rfl
@[simp] theorem e_setPair_de : (s.setPair .de w).e = loByte w := rfl
@[simp] theorem h_setPair_de : (s.setPair .de w).h = s.h := rfl
@[simp] theorem l_setPair_de : (s.setPair .de w).l = s.l := rfl
@[simp] theorem f_setPair_de : (s.setPair .de w).f = s.f := rfl
@[simp] theorem pair_de : s.pair .de = mkWord s.d s.e := rfl
@[simp] theorem a_setPair_hl : (s.setPair .hl w).a = s.a := rfl
@[simp] theorem b_setPair_hl : (s.setPair .hl w).b = s.b := rfl
@[simp] theorem c_setPair_hl : (s.setPair .hl w).c = s.c := rfl
@[simp] theorem d_setPair_hl : (s.setPair .hl w).d = s.d := rfl
@[simp] theorem e_setPair_hl : (s.setPair .hl w).e = s.e := rfl
@[simp] theorem h_setPair_hl : (s.setPair .hl w).h = hiByte w := rfl
@[simp] theorem l_setPair_hl : (s.setPair .hl w).l = loByte w := rfl
@[simp] theorem f_setPair_hl : (s.setPair .hl w).f = s.f := rfl
@[simp] theorem pair_hl : s.pair .hl = mkWord s.h s.l := rfl
@[simp] theorem setPair_hi (p : Pair) : (s.setPair p w).reg p.hi = hiByte w := by cases p <;> rfl
@[simp] theorem setPair_lo (p : Pair) : (s.setPair p w).reg p.lo = loByte w := by cases p <;> rfl

theorem reg_setPair_ne (p : Pair) (hh : q ≠ p.hi) (hl : q ≠ p.lo) : (s.setPair p w).reg q = s.reg q := by
  rw [State.setPair, reg_setReg_ne _ _ _ _ hl, reg_setReg_ne _ _ _ _ hh]

end Sys2Proof.Machine
end

