-- ==== Sys2Proof/Laws/Ops.lean ====
section
/-! SUPPORT. What each shared operation can do, said once: the bus log, fetching, completing, taking IllegalOpcode. -/

namespace Sys2Proof.Machine

/-! The bus log. -/

@[simp] theorem after_mem (bus : Bus) (txs : List Transaction) : (bus.after txs).mem = bus.mem := rfl
@[simp] theorem after_map (bus : Bus) (txs : List Transaction) : (bus.after txs).map = bus.map := rfl
@[simp] theorem after_trace (bus : Bus) (txs : List Transaction) :
    (bus.after txs).trace = txs.reverse ++ bus.trace := rfl
@[simp] theorem after_nil (bus : Bus) : bus.after [] = bus := rfl

theorem after_after (bus : Bus) (xs ys : List Transaction) : (bus.after xs).after ys = bus.after (xs ++ ys) := by
  simp [Bus.after]

@[simp] theorem kindAt_after (bus : Bus) (txs : List Transaction) (addr : Word) :
    (bus.after txs).kindAt addr = bus.kindAt addr := rfl

@[simp] theorem stored_after (bus : Bus) (txs : List Transaction) (addr : Word) (v : Byte) :
    (bus.after txs).stored addr v = bus.stored addr v := rfl

@[simp] theorem afterRead_mem (bus : Bus) (addr : Word) : (bus.afterRead addr).mem = bus.mem := rfl
@[simp] theorem afterRead_map (bus : Bus) (addr : Word) : (bus.afterRead addr).map = bus.map := rfl
@[simp] theorem afterRead_trace (bus : Bus) (addr : Word) :
    (bus.afterRead addr).trace = .rd addr (bus.answer addr) :: bus.trace := rfl
@[simp] theorem afterWrite_mem (bus : Bus) (addr : Word) (v : Byte) :
    (bus.afterWrite addr v).mem = bus.stored addr v := rfl
@[simp] theorem afterWrite_map (bus : Bus) (addr : Word) (v : Byte) : (bus.afterWrite addr v).map = bus.map := rfl
@[simp] theorem afterWrite_trace (bus : Bus) (addr : Word) (v : Byte) :
    (bus.afterWrite addr v).trace = .wr addr v :: bus.trace := rfl
@[simp] theorem kindAt_afterWrite (bus : Bus) (addr x : Word) (v : Byte) :
    (bus.afterWrite addr v).kindAt x = bus.kindAt x := rfl

/-- Memory answers the same whatever has been logged. -/
theorem answer_after_of_ram (bus : Bus) (txs : List Transaction) {addr : Word} (h : bus.kindAt addr = .ram) :
    (bus.after txs).answer addr = bus.answer addr := by
  simp only [Bus.answer, kindAt_after, h, after_mem]

/-- RAM answers its contents. -/
theorem answer_of_ram {bus : Bus} {addr : Word} (h : bus.kindAt addr = .ram) :
    bus.answer addr = Memory.read bus.mem addr.toNat := by
  simp only [Bus.answer, h]

/-- RAM answers the byte written to it. -/
theorem answer_afterWrite_of_ram {bus : Bus} {addr : Word} (v : Byte) (h : bus.kindAt addr = .ram)
    (hw : Memory.wf bus.mem = true) : (bus.afterWrite addr v).answer addr = v := by
  rw [answer_of_ram (by simpa using h)]
  simp only [afterWrite_mem, Bus.stored, h]
  exact read_write_same _ _ _ hw

/-! Fetching. -/

/-- Fetching bytes in two goes is fetching them in one. -/
theorem fetched_append (s : State) (v : Byte) (rest : List Byte) :
    (s.fetched [v]).fetched rest = s.fetched (v :: rest) := by
  have h : s.pc + BitVec.ofNat 16 1 + BitVec.ofNat 16 rest.length = s.pc + BitVec.ofNat 16 (rest.length + 1) := by
    rw [BitVec.add_assoc, ← BitVec.ofNat_add, Nat.add_comm 1]
  simp only [State.fetched, after_after, fetchReads, List.length_cons, List.length_nil, List.cons_append,
    List.nil_append, Nat.zero_add, h]
  rfl

/-- One fetch reads the byte the bus answers at `pc`. -/
theorem fetch8_eq (s : State) : s.fetch8 = (s.bus.answer s.pc, s.fetched [s.bus.answer s.pc]) := rfl

/-- A word fetch reads two bytes, low byte first. -/
theorem fetch16_eq (s : State) :
    s.fetch16 = (mkWord ((s.bus.afterRead s.pc).answer (s.pc + 1)) (s.bus.answer s.pc),
      s.fetched [s.bus.answer s.pc, (s.bus.afterRead s.pc).answer (s.pc + 1)]) := by
  rw [← fetched_append]
  rfl

/-- The bus after a fetch presents what it presented after the fetched byte. -/
theorem presents_cons (bus : Bus) (pc : Word) (v : Byte) (rest : List Byte) :
    bus.presents pc (v :: rest) ↔ bus.answer pc = v ∧ (bus.after [.rd pc v]).presents (pc + 1) rest := by
  constructor
  · rintro ⟨h, hr⟩
    subst h
    exact ⟨rfl, hr⟩
  · rintro ⟨h, hr⟩
    subst h
    exact ⟨rfl, hr⟩

@[simp] theorem presents_nil (bus : Bus) (pc : Word) : bus.presents pc [] := trivial

/-- Fetching operand bytes that the bus presents and the decoder accepts. -/
theorem fetchOperands_of_decode (s : State) (op : Byte) (slot : Slot) (bytes : List Byte) (i : Instr)
    (hd : decodeOperands op slot bytes = .ok i []) (hp : s.bus.presents s.pc bytes) :
    fetchOperands op slot s = (i, s.fetched bytes) := by
  cases slot with
  | undefinedSlot => cases hd; simp [fetchOperands, State.fetched, fetchReads]
  | f1 j => cases hd; simp [fetchOperands, State.fetched, fetchReads]
  | f2 withByte =>
    match bytes, hd, hp with
    | [n], hd, ⟨h, _⟩ => cases hd; subst h; rfl
  | f3 withWord =>
    match bytes, hd, hp with
    | [lo, hi], hd, ⟨hlo, hhi, _⟩ =>
      cases hd
      simp only [fetchOperands, fetch16_eq, hlo, hhi]

/-- Fetching an instruction that the bus presents at `pc`. -/
theorem fetchInstr_of_decode (s : State) (bytes : List Byte) (i : Instr) (hd : decode bytes = .ok i [])
    (hp : s.bus.presents s.pc bytes) : s.fetchInstr = (i, s.fetched bytes) := by
  match bytes, hd, hp with
  | op :: rest, hd, hp =>
    rw [presents_cons] at hp
    obtain ⟨h, hr⟩ := hp
    simp only [State.fetchInstr, fetch8_eq, h]
    rw [fetchOperands_of_decode (s.fetched [op]) op (slotOf op) rest i hd hr, fetched_append]

/-- What fetching operands can do: some bytes are presented, decode to the instruction, and are fetched. -/
theorem fetchOperands_cases (s : State) (op : Byte) (slot : Slot) :
    ∃ bytes, decodeOperands op slot bytes = .ok (fetchOperands op slot s).1 [] ∧
      s.bus.presents s.pc bytes ∧ (fetchOperands op slot s).2 = s.fetched bytes := by
  cases slot with
  | undefinedSlot => exact ⟨[], rfl, trivial, by simp [fetchOperands, State.fetched, fetchReads]⟩
  | f1 j => exact ⟨[], rfl, trivial, by simp [fetchOperands, State.fetched, fetchReads]⟩
  | f2 withByte => exact ⟨[s.bus.answer s.pc], rfl, ⟨rfl, trivial⟩, rfl⟩
  | f3 withWord =>
    exact ⟨[s.bus.answer s.pc, (s.bus.afterRead s.pc).answer (s.pc + 1)], by rw [fetchOperands, fetch16_eq]; rfl,
      ⟨rfl, rfl, trivial⟩, by rw [fetchOperands, fetch16_eq]⟩

/-- What fetching an instruction can do: the bytes at `pc` decode to it, and are fetched. -/
theorem fetchInstr_cases (s : State) :
    ∃ bytes, decode bytes = .ok s.fetchInstr.1 [] ∧ s.bus.presents s.pc bytes ∧
      s.fetchInstr.2 = s.fetched bytes := by
  obtain ⟨rest, hd, hp, hs⟩ :=
    fetchOperands_cases (s.fetched [s.bus.answer s.pc]) (s.bus.answer s.pc) (slotOf (s.bus.answer s.pc))
  refine ⟨s.bus.answer s.pc :: rest, hd, ⟨rfl, hp⟩, ?_⟩
  rw [← fetched_append]
  exact hs

/-- A step of a core that accepts one runs the fetched instruction. -/
theorem step_of_ready {s : State} (h : s.Ready) : step s = exec s.fetchInstr.1 s.fetchInstr.2 := by
  simp only [step, h.1, h.2]

/-! Completing and taking IllegalOpcode. -/

/-- Everything a completed operation does beside its own effect. -/
theorem finish_eq_next (c : Nat) (s t : State) :
    finish c s = .next t ↔ t = { s with m := s.m + c, t := s.t + 4 * c, result := some (.cost c) } := by
  constructor
  · intro h; cases h; rfl
  · intro h; subst h; rfl

/-- Everything taking IllegalOpcode does. -/
theorem raiseIllegalOpcode_eq_next (op : Byte) (s t : State) :
    raiseIllegalOpcode op s = .next t ↔
      t = { s with faultRecord := ⟨op, s.pc - 1⟩ :: s.faultRecord,
                   result := some (.illegalOpcode ⟨op, s.pc - 1⟩) } := by
  constructor
  · intro h; cases h; rfl
  · intro h; subst h; rfl

/-! Transfers. -/

/-- Everything a load does: one read, one register. -/
theorem loadFrom_eq (dst : Reg8) (addr : Word) (s : State) :
    loadFrom dst addr s = { s.setReg dst (s.bus.answer addr) with bus := s.bus.afterRead addr } := by
  cases dst <;> rfl

/-- Everything a store does: one write, no register. -/
theorem storeTo_eq (addr : Word) (v : Byte) (s : State) :
    storeTo addr v s = { s with bus := s.bus.afterWrite addr v } := rfl

end Sys2Proof.Machine
end

