-- ==== Sys2Proof/Laws/Operands.lean ====
section
/-! SUPPORT. Everything the operation of each template does, said once: the one next state it answers. -/

namespace Sys2Proof.Machine

/-- A completed operation, with its result written out. -/
theorem finish_eq (c : Nat) (s : State) :
    finish c s = .next { s with m := s.m + c, t := s.t + 4 * c, result := some (.cost c) } := rfl

theorem noOperation_eq (s : State) : noOperation s =
    .next { s with m := s.m + 1, t := s.t + 4, result := some (.cost 1) } := by
  rfl

theorem ldRegReg_eq (dst : Reg8) (src : Reg8) (s : State) : ldRegReg dst src s =
    .next { s.setReg dst (s.reg src) with m := s.m + 1, t := s.t + 4, result := some (.cost 1) } := by
  cases dst <;> rfl

theorem ldRegImm_eq (dst : Reg8) (n : Byte) (s : State) : ldRegImm dst n s =
    .next { s.setReg dst n with m := s.m + 2, t := s.t + 8, result := some (.cost 2) } := by
  cases dst <;> rfl

theorem ldRegInd_eq (dst : Reg8) (p : Pair) (s : State) : ldRegInd dst p s =
    .next { s.setReg dst (s.bus.answer (s.pair p)) with m := s.m + 2, t := s.t + 8, bus := s.bus.afterRead (s.pair p), result := some (.cost 2) } := by
  rw [ldRegInd, loadFrom_eq, finish_eq]
  cases dst <;> rfl

theorem ldIndReg_eq (p : Pair) (src : Reg8) (s : State) : ldIndReg p src s =
    .next { s with m := s.m + 2, t := s.t + 8, bus := s.bus.afterWrite (s.pair p) (s.reg src), result := some (.cost 2) } := by
  rfl

theorem ldIndImm_eq (p : Pair) (n : Byte) (s : State) : ldIndImm p n s =
    .next { s with m := s.m + 3, t := s.t + 12, bus := s.bus.afterWrite (s.pair p) n, result := some (.cost 3) } := by
  rfl

theorem ldRegAbs_eq (dst : Reg8) (nn : Word) (s : State) : ldRegAbs dst nn s =
    .next { s.setReg dst (s.bus.answer nn) with m := s.m + 4, t := s.t + 16, bus := s.bus.afterRead nn, result := some (.cost 4) } := by
  rw [ldRegAbs, loadFrom_eq, finish_eq]
  cases dst <;> rfl

theorem ldAbsReg_eq (nn : Word) (src : Reg8) (s : State) : ldAbsReg nn src s =
    .next { s with m := s.m + 4, t := s.t + 16, bus := s.bus.afterWrite nn (s.reg src), result := some (.cost 4) } := by
  rfl

theorem ldRegPageReg_eq (dst : Reg8) (offset : Reg8) (s : State) : ldRegPageReg dst offset s =
    .next { s.setReg dst (s.bus.answer (pageAddress (s.reg offset))) with m := s.m + 2, t := s.t + 8, bus := s.bus.afterRead (pageAddress (s.reg offset)), result := some (.cost 2) } := by
  rw [ldRegPageReg, loadFrom_eq, finish_eq]
  cases dst <;> rfl

theorem ldPageRegReg_eq (offset : Reg8) (src : Reg8) (s : State) : ldPageRegReg offset src s =
    .next { s with m := s.m + 2, t := s.t + 8, bus := s.bus.afterWrite (pageAddress (s.reg offset)) (s.reg src), result := some (.cost 2) } := by
  rfl

theorem ldRegPageImm_eq (dst : Reg8) (n : Byte) (s : State) : ldRegPageImm dst n s =
    .next { s.setReg dst (s.bus.answer (pageAddress n)) with m := s.m + 3, t := s.t + 12, bus := s.bus.afterRead (pageAddress n), result := some (.cost 3) } := by
  rw [ldRegPageImm, loadFrom_eq, finish_eq]
  cases dst <;> rfl

theorem ldPageImmReg_eq (n : Byte) (src : Reg8) (s : State) : ldPageImmReg n src s =
    .next { s with m := s.m + 3, t := s.t + 12, bus := s.bus.afterWrite (pageAddress n) (s.reg src), result := some (.cost 3) } := by
  rfl

theorem loadHLInc_eq (dst : Reg8) (s : State) : loadHLInc dst s =
    .next { (s.setReg dst (s.bus.answer (s.pair .hl))).setPair .hl (s.pair .hl + 1) with m := s.m + 2, t := s.t + 8, bus := s.bus.afterRead (s.pair .hl), result := some (.cost 2) } := by
  rw [loadHLInc, loadFrom_eq, finish_eq]
  cases dst <;> rfl

theorem storeHLInc_eq (src : Reg8) (s : State) : storeHLInc src s =
    .next { s.setPair .hl (s.pair .hl + 1) with m := s.m + 2, t := s.t + 8, bus := s.bus.afterWrite (s.pair .hl) (s.reg src), result := some (.cost 2) } := by
  rw [storeHLInc, storeTo_eq, finish_eq]
  generalize s.pair .hl + 1 = w
  rfl

theorem loadHLDec_eq (dst : Reg8) (s : State) : loadHLDec dst s =
    .next { (s.setReg dst (s.bus.answer (s.pair .hl))).setPair .hl (s.pair .hl - 1) with m := s.m + 2, t := s.t + 8, bus := s.bus.afterRead (s.pair .hl), result := some (.cost 2) } := by
  rw [loadHLDec, loadFrom_eq, finish_eq]
  cases dst <;> rfl

theorem storeHLDec_eq (src : Reg8) (s : State) : storeHLDec src s =
    .next { s.setPair .hl (s.pair .hl - 1) with m := s.m + 2, t := s.t + 8, bus := s.bus.afterWrite (s.pair .hl) (s.reg src), result := some (.cost 2) } := by
  rw [storeHLDec, storeTo_eq, finish_eq]
  generalize s.pair .hl - 1 = w
  rfl

theorem ldPairImm_eq (p : Pair) (nn : Word) (s : State) : ldPairImm p nn s =
    .next { s.setPair p nn with m := s.m + 3, t := s.t + 12, result := some (.cost 3) } := by
  cases p <;> rfl

theorem ldSpImm_eq (nn : Word) (s : State) : ldSpImm nn s =
    .next { s.setSp nn with m := s.m + 3, t := s.t + 12, result := some (.cost 3) } := by
  rfl

theorem ldSpPair_eq (p : Pair) (s : State) : ldSpPair p s =
    .next { s.setSp (s.pair p) with m := s.m + 2, t := s.t + 8, result := some (.cost 2) } := by
  rfl

end Sys2Proof.Machine
end

