-- ==== Sys2Proof/Laws/Exec.lean ====
section
/-! SUPPORT. What an instruction can do, said once: it runs its template (Machine/Templates.lean), so a statement about
every instruction has one case for each of the twenty templates. -/

namespace Sys2Proof.Machine

/-- The shared operation of a template. -/
def Template.run (s : State) : Template → Answer
  | .nop => noOperation s
  | .regReg dst src => ldRegReg dst src s
  | .regImm dst n => ldRegImm dst n s
  | .regInd dst p => ldRegInd dst p s
  | .indReg p src => ldIndReg p src s
  | .indImm p n => ldIndImm p n s
  | .regAbs dst nn => ldRegAbs dst nn s
  | .absReg nn src => ldAbsReg nn src s
  | .regPageReg dst offset => ldRegPageReg dst offset s
  | .pageRegReg offset src => ldPageRegReg offset src s
  | .regPageImm dst n => ldRegPageImm dst n s
  | .pageImmReg n src => ldPageImmReg n src s
  | .loadInc dst => loadHLInc dst s
  | .storeInc src => storeHLInc src s
  | .loadDec dst => loadHLDec dst s
  | .storeDec src => storeHLDec src s
  | .pairImm p nn => ldPairImm p nn s
  | .spImm nn => ldSpImm nn s
  | .spPair p => ldSpPair p s
  | .undefinedSlot op => raiseIllegalOpcode op s

/-- An instruction runs its template. -/
theorem exec_eq_run (i : Instr) (s : State) : exec i s = (template i).run s := by
  cases i <;> rfl

/-- A host run of one more step, whatever the machine: the step, then the rest. -/
theorem host_run_succ (M : Host.Core) (k : Nat) (s : M.State) :
    (∀ u, M.step s = .next u → M.run (k + 1) s = M.run k u) ∧
    (∀ r, M.step s = .fault r → M.run (k + 1) s = .fault r) ∧
    (∀ r, M.step s = .refused r → M.run (k + 1) s = .refused r) := by
  refine ⟨fun u h => ?_, fun r h => ?_, fun r h => ?_⟩ <;> rw [Host.Core.run, h]

/-- The host's runs are the model's. -/
theorem core_run_eq (k : Nat) (s : State) : Sys2Proof.core.run k s = runSteps k s := by
  induction k generalizing s with
  | zero => rfl
  | succ k ih =>
    obtain ⟨hn, hf, hr⟩ := host_run_succ Sys2Proof.core k s
    rw [runSteps]
    cases h : step s with
    | next u => exact (hn u h).trans (ih u)
    | fault r => exact hf r h
    | refused r => exact hr r h

/-- A run of one more step: the step, then the rest from where it answers. -/
theorem runSteps_succ (k : Nat) {s u : State} (h : step s = .next u) : runSteps (k + 1) s = runSteps k u := by
  simp only [runSteps, h]

/-- A run that answers a next state took a first step that did. -/
theorem runSteps_succ_inv (k : Nat) {s t : State} (h : runSteps (k + 1) s = .next t) :
    ∃ u, step s = .next u ∧ runSteps k u = .next t := by
  rw [runSteps] at h
  cases hs : step s with
  | next u => rw [hs] at h; exact ⟨u, rfl, h⟩
  | fault r => rw [hs] at h; cases h
  | refused r => rw [hs] at h; cases h

/-- A storing instruction answers a next state, whose bus is the old one after that one write, with `pc` and the run mode
as they were. -/
theorem exec_of_store {i : Instr} {s : State} {addr : Word} {v : Byte}
    (ha : (template i).storeAddress s = some addr) (hv : (template i).storedByte s = some v) :
    ∃ t, exec i s = .next t ∧ t.bus = s.bus.afterWrite addr v ∧ t.pc = s.pc ∧ t.phase = s.phase ∧ t.mode = s.mode := by
  rw [exec_eq_run]
  revert ha hv
  generalize template i = tm
  intro ha hv
  cases tm <;> cases ha <;> cases hv
  case indReg p src => exact ⟨_, ldIndReg_eq p src s, rfl, rfl, rfl, rfl⟩
  case indImm p => exact ⟨_, ldIndImm_eq p v s, rfl, rfl, rfl, rfl⟩
  case absReg src => exact ⟨_, ldAbsReg_eq addr src s, rfl, rfl, rfl, rfl⟩
  case pageRegReg offset src => exact ⟨_, ldPageRegReg_eq offset src s, rfl, rfl, rfl, rfl⟩
  case pageImmReg n src => exact ⟨_, ldPageImmReg_eq n src s, rfl, rfl, rfl, rfl⟩
  case storeInc src => exact ⟨_, storeHLInc_eq src s, rfl, rfl, rfl, rfl⟩
  case storeDec src => exact ⟨_, storeHLDec_eq src s, rfl, rfl, rfl, rfl⟩

/-- A form that names an address to store to names the byte it stores there, and the other way round. -/
theorem storeAddress_isSome_iff (tm : Template) (s : State) :
    (tm.storeAddress s).isSome = (tm.storedByte s).isSome := by
  cases tm <;> rfl

/-- Its encoding has its template's length. -/
theorem encode_length (i : Instr) : (encode i).length = (template i).length := by
  cases i <;> rfl

/-- No instruction names `f` as a register it writes. -/
theorem f_not_written (i : Instr) : Reg8.f ∉ (template i).writes := by
  cases i <;> simp [template, Template.writes, Pair.hi, Pair.lo]

end Sys2Proof.Machine
end

