-- ==== Sys2Proof/Machine/Flags.lean ====
section
/-! DEFINITION. The flags. `f` has four flags of conventional roles at the places `FLAG_LAYOUT` gives them, and the spec
leaves the layout open (10_state.md R40, D10; log 10). No instruction reads or writes `f`, so the spec gives no flag
computation, and no meaning imports this file. -/

namespace Sys2Proof.Machine

/-- The flag at a place of `f`. -/
def State.flagAt (s : State) (place : Fin 8) : Bool := s.f.getLsbD place.val

/-- The zero flag. -/
def State.zeroFlag (s : State) : Bool := s.flagAt Config.flagLayout.zero

/-- The subtract flag. -/
def State.subtractFlag (s : State) : Bool := s.flagAt Config.flagLayout.subtract

/-- The half-carry flag. -/
def State.halfCarryFlag (s : State) : Bool := s.flagAt Config.flagLayout.halfCarry

/-- The carry flag. -/
def State.carryFlag (s : State) : Bool := s.flagAt Config.flagLayout.carry

end Sys2Proof.Machine
end

