-- ==== Sys2Proof/Tests/Slice0.lean ====
section
/-! SUPPORT. Tests. Every word is written out from the encodings of 30_encoding.md R119 and every expected value is taken from
95_test_vectors.md (the number V or L in a test's name is the vector's) or from the rule named; the witnesses meet all
hypotheses of the obligation they are named after, at the boundary values of its clauses. -/

namespace Sys2Proof.Tests

open Sys2Proof.Machine

/-- The reference RAM of 92_eei_decisions.md D9 with these bytes. -/
def ram (mem : Memory) : Bus := { mem := mem, map := [], trace := [] }

/-- The launch state of 95_test_vectors.md section 3: zero registers, a `pc`, and memory. -/
def launch (pc : Word) (mem : Memory) : State := { State.reset with pc := pc, bus := ram mem }

/-- The next state of an answer, if it is one. -/
def next? : Answer → Option State
  | .next s => some s
  | .fault _ => none
  | .refused _ => none

/-- What a vector lists in each row: `pc`, `m`, `t`, the step's result and its transactions, newest first. -/
structure Row where
  pc : Word
  m : Nat
  t : Nat
  result : Option StepResult
  trace : List Transaction
  deriving DecidableEq, Repr

/-- The row of a state. -/
def row (s : State) : Row := ⟨s.pc, s.m, s.t, s.result, s.bus.trace⟩

/-- A fact about the next state of an answer. -/
def yields {α : Type} (a : Answer) (f : State → α) : Option α := (next? a).map f

/-! ## Well-formedness -/

theorem test_wf_refuses_implemented_opcodes :
    (Instr.undefined 0x00).wf = false ∧ (Instr.undefined 0x3E).wf = false ∧ (Instr.undefined 0xFA).wf = false := by decide

theorem test_wf_accepts :
    (Instr.undefined 0xFF).wf = true ∧ (Instr.undefined 0x76).wf = true ∧ (Instr.ldA_n 0xFF).wf = true := by decide

/-! ## Decoding: every constructor from a word written out from its encoding -/

theorem test_decode_ldB_r :
    decode [0b01000000] = .ok .ldB_B [] ∧
    decode [0b01000001] = .ok .ldB_C [] ∧
    decode [0b01000010] = .ok .ldB_D [] ∧
    decode [0b01000011] = .ok .ldB_E [] ∧
    decode [0b01000100] = .ok .ldB_H [] ∧
    decode [0b01000101] = .ok .ldB_L [] ∧
    decode [0b01000110] = .ok .ldB_atHL [] ∧
    decode [0b01000111] = .ok .ldB_A [] ∧
    decode [0b00000110, 0x5A] = .ok (.ldB_n 0x5A) [] := by decide

theorem test_decode_ldC_r :
    decode [0b01001000] = .ok .ldC_B [] ∧
    decode [0b01001001] = .ok .ldC_C [] ∧
    decode [0b01001010] = .ok .ldC_D [] ∧
    decode [0b01001011] = .ok .ldC_E [] ∧
    decode [0b01001100] = .ok .ldC_H [] ∧
    decode [0b01001101] = .ok .ldC_L [] ∧
    decode [0b01001110] = .ok .ldC_atHL [] ∧
    decode [0b01001111] = .ok .ldC_A [] ∧
    decode [0b00001110, 0x5A] = .ok (.ldC_n 0x5A) [] := by decide

theorem test_decode_ldD_r :
    decode [0b01010000] = .ok .ldD_B [] ∧
    decode [0b01010001] = .ok .ldD_C [] ∧
    decode [0b01010010] = .ok .ldD_D [] ∧
    decode [0b01010011] = .ok .ldD_E [] ∧
    decode [0b01010100] = .ok .ldD_H [] ∧
    decode [0b01010101] = .ok .ldD_L [] ∧
    decode [0b01010110] = .ok .ldD_atHL [] ∧
    decode [0b01010111] = .ok .ldD_A [] ∧
    decode [0b00010110, 0x5A] = .ok (.ldD_n 0x5A) [] := by decide

theorem test_decode_ldE_r :
    decode [0b01011000] = .ok .ldE_B [] ∧
    decode [0b01011001] = .ok .ldE_C [] ∧
    decode [0b01011010] = .ok .ldE_D [] ∧
    decode [0b01011011] = .ok .ldE_E [] ∧
    decode [0b01011100] = .ok .ldE_H [] ∧
    decode [0b01011101] = .ok .ldE_L [] ∧
    decode [0b01011110] = .ok .ldE_atHL [] ∧
    decode [0b01011111] = .ok .ldE_A [] ∧
    decode [0b00011110, 0x5A] = .ok (.ldE_n 0x5A) [] := by decide

theorem test_decode_ldH_r :
    decode [0b01100000] = .ok .ldH_B [] ∧
    decode [0b01100001] = .ok .ldH_C [] ∧
    decode [0b01100010] = .ok .ldH_D [] ∧
    decode [0b01100011] = .ok .ldH_E [] ∧
    decode [0b01100100] = .ok .ldH_H [] ∧
    decode [0b01100101] = .ok .ldH_L [] ∧
    decode [0b01100110] = .ok .ldH_atHL [] ∧
    decode [0b01100111] = .ok .ldH_A [] ∧
    decode [0b00100110, 0x5A] = .ok (.ldH_n 0x5A) [] := by decide

theorem test_decode_ldL_r :
    decode [0b01101000] = .ok .ldL_B [] ∧
    decode [0b01101001] = .ok .ldL_C [] ∧
    decode [0b01101010] = .ok .ldL_D [] ∧
    decode [0b01101011] = .ok .ldL_E [] ∧
    decode [0b01101100] = .ok .ldL_H [] ∧
    decode [0b01101101] = .ok .ldL_L [] ∧
    decode [0b01101110] = .ok .ldL_atHL [] ∧
    decode [0b01101111] = .ok .ldL_A [] ∧
    decode [0b00101110, 0x5A] = .ok (.ldL_n 0x5A) [] := by decide

theorem test_decode_ldAtHL_r :
    decode [0b01110000] = .ok .ldAtHL_B [] ∧
    decode [0b01110001] = .ok .ldAtHL_C [] ∧
    decode [0b01110010] = .ok .ldAtHL_D [] ∧
    decode [0b01110011] = .ok .ldAtHL_E [] ∧
    decode [0b01110100] = .ok .ldAtHL_H [] ∧
    decode [0b01110101] = .ok .ldAtHL_L [] ∧
    decode [0b01110111] = .ok .ldAtHL_A [] ∧
    decode [0b00110110, 0x5A] = .ok (.ldAtHL_n 0x5A) [] := by decide

theorem test_decode_ldA_r :
    decode [0b01111000] = .ok .ldA_B [] ∧
    decode [0b01111001] = .ok .ldA_C [] ∧
    decode [0b01111010] = .ok .ldA_D [] ∧
    decode [0b01111011] = .ok .ldA_E [] ∧
    decode [0b01111100] = .ok .ldA_H [] ∧
    decode [0b01111101] = .ok .ldA_L [] ∧
    decode [0b01111110] = .ok .ldA_atHL [] ∧
    decode [0b01111111] = .ok .ldA_A [] ∧
    decode [0b00111110, 0x5A] = .ok (.ldA_n 0x5A) [] := by decide

theorem test_decode_pair_immediates :
    decode [0b00000001, 0x34, 0x12] = .ok (.ldBC_nn 0x1234) [] ∧
    decode [0b00010001, 0x34, 0x12] = .ok (.ldDE_nn 0x1234) [] ∧
    decode [0b00100001, 0x34, 0x12] = .ok (.ldHL_nn 0x1234) [] ∧
    decode [0b00110001, 0x34, 0x12] = .ok (.ldSP_nn 0x1234) [] := by decide

theorem test_decode_accumulator_indirect :
    decode [0b00000010] = .ok .ldAtBC_A [] ∧
    decode [0b00001010] = .ok .ldA_atBC [] ∧
    decode [0b00010010] = .ok .ldAtDE_A [] ∧
    decode [0b00011010] = .ok .ldA_atDE [] ∧
    decode [0b00100010] = .ok .ldAtHLInc_A [] ∧
    decode [0b00101010] = .ok .ldA_atHLInc [] ∧
    decode [0b00110010] = .ok .ldAtHLDec_A [] ∧
    decode [0b00111010] = .ok .ldA_atHLDec [] := by decide

theorem test_decode_page_absolute_and_rest :
    decode [0b00000000] = .ok .nop [] ∧
    decode [0b11100000, 0x80] = .ok (.ldhAtN_A 0x80) [] ∧
    decode [0b11100010] = .ok .ldAtC_A [] ∧
    decode [0b11101010, 0x34, 0x12] = .ok (.ldAtNN_A 0x1234) [] ∧
    decode [0b11110000, 0x80] = .ok (.ldhA_atN 0x80) [] ∧
    decode [0b11110010] = .ok .ldA_atC [] ∧
    decode [0b11111001] = .ok .ldSP_HL [] ∧
    decode [0b11111010, 0x34, 0x12] = .ok (.ldA_atNN 0x1234) [] := by decide

theorem test_decode_undefined_slots :
    decode [0b01110110, 0x00] = .ok (.undefined 0x76) [0x00] ∧
    decode [0b11001011, 0x37] = .ok (.undefined 0xCB) [0x37] ∧
    decode [0b11101101] = .ok (.undefined 0xED) [] ∧
    decode [0b00001000] = .ok (.undefined 0x08) [] ∧
    decode [0b11111111] = .ok (.undefined 0xFF) [] := by decide

theorem test_decode_rejects :
    decode [] = .rejected .noOpcode ∧
    decode [0b00111110] = .rejected (.missingOperand 0x3E) ∧
    decode [0b11111010, 0x10] = .rejected (.missingOperand 0xFA) := by decide

/-- A word of the opcode table, its operand bytes zero (the numbering of spec/opcode_table.json). -/
theorem test_decodeTableWord : decodeTableWord 8 0x3E = some (.ldA_n 0x00) ∧ decodeTableWord 24 0x1234FA = some (.ldA_atNN 0x1234) ∧
    decodeTableWord 8 0xD3 = some (.undefined 0xD3) := by decide

/-! ## Registers, pairs and the clock (vectors L1 to L9, L11) -/

theorem test_L1_L2_L3_register_writes_mask :
    (State.reset.writeReg .b 0x1FF).b = 0xFF ∧ (State.reset.writeReg .f (-1)).f = 0xFF ∧
    (State.reset.writeReg .a 256).a = 0x00 := by decide

theorem test_L4_pair_write :
    (State.reset.writePair .hl 0x12345).h = 0x23 ∧ (State.reset.writePair .hl 0x12345).l = 0x45 ∧
    (State.reset.writePair .hl 0x12345).pair .hl = 0x2345 := by decide

theorem test_L5_pair_is_not_cached :
    (State.setReg { State.reset with b := 0xAB, c := 0xCD } .c 0x01).pair .bc = 0xAB01 := by decide

theorem test_L6_pc_and_sp_writes_mask :
    (State.reset.writePc 0x10000).pc = 0x0000 ∧ (State.reset.writeSp 0x1FFFE).sp = 0xFFFE := by decide

theorem test_L7_L8_pair_steps :
    (State.incPair { State.reset with l := 0xFF } .hl).pair .hl = 0x0100 ∧
    (State.reset.decPair .hl).pair .hl = 0xFFFF := by decide

theorem test_L9_tick : (State.tick { State.reset with m := 7, t := 28 } 4).m = 11 ∧
    (State.tick { State.reset with m := 7, t := 28 } 4).t = 44 := by decide

/-! ## One step: vectors V1 to V32 -/

theorem test_V1_nop :
    yields (step (launch 0x0000 [])) (fun t => (row t, t.sp)) =
      some (⟨0x0001, 1, 4, some (.cost 1), [.rd 0x0000 0x00]⟩, 0x0000) := by
  decide

theorem test_V2_nop_wraps_pc :
    yields (step (launch 0xFFFF [])) (fun t => row t) =
      some ⟨0x0000, 1, 4, some (.cost 1), [.rd 0xFFFF 0x00]⟩ := by
  decide

theorem test_V3_ldB_C :
    yields (step { launch 0x0100 [(0x0100, 0x41)] with c := 0xFF }) (fun t => (row t, t.b, t.c)) =
      some (⟨0x0101, 1, 4, some (.cost 1), [.rd 0x0100 0x41]⟩, 0xFF, 0xFF) := by
  decide

theorem test_V4_ldA_A :
    yields (step { launch 0x0100 [(0x0100, 0x7F)] with a := 0x5A }) (fun t => (row t, t.a)) =
      some (⟨0x0101, 1, 4, some (.cost 1), [.rd 0x0100 0x7F]⟩, 0x5A) := by
  decide

theorem test_V5_ldH_L :
    yields (step { launch 0x0100 [(0x0100, 0x65)] with h := 0x12, l := 0x34 }) (fun t => (row t, t.h, t.l)) =
      some (⟨0x0101, 1, 4, some (.cost 1), [.rd 0x0100 0x65]⟩, 0x34, 0x34) := by
  decide

theorem test_V6_ldA_n :
    yields (step (launch 0x0000 [(0x0000, 0x3E), (0x0001, 0x42)])) (fun t => (row t, t.a)) =
      some (⟨0x0002, 2, 8, some (.cost 2), [.rd 0x0001 0x42, .rd 0x0000 0x3E]⟩, 0x42) := by
  decide

theorem test_V7_ldL_n_operand_wraps :
    yields (step (launch 0xFFFF [(0x0000, 0x99), (0xFFFF, 0x2E)])) (fun t => (row t, t.l)) =
      some (⟨0x0001, 2, 8, some (.cost 2), [.rd 0x0000 0x99, .rd 0xFFFF 0x2E]⟩, 0x99) := by
  decide

theorem test_V8_ldH_atHL_old_hl :
    yields (step { launch 0x0100 [(0x0100, 0x66), (0xC000, 0x77)] with h := 0xC0 }) (fun t => (row t, t.h, t.l)) =
      some (⟨0x0101, 2, 8, some (.cost 2), [.rd 0xC000 0x77, .rd 0x0100 0x66]⟩, 0x77, 0x00) := by
  decide

theorem test_V9_ldAtHL_H :
    yields (step { launch 0x0100 [(0x0100, 0x74)] with h := 0xC0, l := 0x05 }) (fun t => (row t, t.bus.mem)) =
      some (⟨0x0101, 2, 8, some (.cost 2), [.wr 0xC005 0xC0, .rd 0x0100 0x74]⟩, [(0x0100, 0x74), (0xC005, 0xC0)]) := by
  decide

theorem test_V10_ldAtHL_L :
    yields (step { launch 0x0100 [(0x0100, 0x75)] with h := 0xC0, l := 0x05 }) (fun t => (row t, t.bus.mem)) =
      some (⟨0x0101, 2, 8, some (.cost 2), [.wr 0xC005 0x05, .rd 0x0100 0x75]⟩, [(0x0100, 0x75), (0xC005, 0x05)]) := by
  decide

theorem test_V11_ldAtHL_n :
    yields (step { launch 0x0100 [(0x0100, 0x36), (0x0101, 0xFF)] with h := 0xC0 }) (fun t => (row t, t.bus.mem)) =
      some (⟨0x0102, 3, 12, some (.cost 3), [.wr 0xC000 0xFF, .rd 0x0101 0xFF, .rd 0x0100 0x36]⟩, [(0x0100, 0x36), (0x0101, 0xFF), (0xC000, 0xFF)]) := by
  decide

theorem test_V12_ldA_atBC :
    yields (step { launch 0x0100 [(0x0100, 0x0A), (0xFF44, 0x90)] with b := 0xFF, c := 0x44 }) (fun t => (row t, t.a)) =
      some (⟨0x0101, 2, 8, some (.cost 2), [.rd 0xFF44 0x90, .rd 0x0100 0x0A]⟩, 0x90) := by
  decide

theorem test_V13_ldAtDE_A :
    yields (step { launch 0x0100 [(0x0100, 0x12)] with a := 0x3C, d := 0xC1 }) (fun t => (row t, t.bus.mem)) =
      some (⟨0x0101, 2, 8, some (.cost 2), [.wr 0xC100 0x3C, .rd 0x0100 0x12]⟩, [(0x0100, 0x12), (0xC100, 0x3C)]) := by
  decide

theorem test_V14_ldA_atNN_operands_wrap :
    yields (step (launch 0xFFFE [(0x0000, 0xC0), (0xC010, 0x5E), (0xFFFE, 0xFA), (0xFFFF, 0x10)])) (fun t => (row t, t.a)) =
      some (⟨0x0001, 4, 16, some (.cost 4), [.rd 0xC010 0x5E, .rd 0x0000 0xC0, .rd 0xFFFF 0x10, .rd 0xFFFE 0xFA]⟩, 0x5E) := by
  decide

theorem test_V15_ldAtNN_A :
    yields (step { launch 0x0100 [(0x0100, 0xEA), (0x0101, 0xFF), (0x0102, 0xFF)] with a := 0x01 }) (fun t => (row t, t.bus.mem)) =
      some (⟨0x0103, 4, 16, some (.cost 4), [.wr 0xFFFF 0x01, .rd 0x0102 0xFF, .rd 0x0101 0xFF, .rd 0x0100 0xEA]⟩, [(0x0100, 0xEA), (0x0101, 0xFF), (0x0102, 0xFF), (0xFFFF, 0x01)]) := by
  decide

theorem test_V16_ldA_atC :
    yields (step { launch 0x0100 [(0x0100, 0xF2), (0xFFFF, 0x1F)] with c := 0xFF }) (fun t => (row t, t.a)) =
      some (⟨0x0101, 2, 8, some (.cost 2), [.rd 0xFFFF 0x1F, .rd 0x0100 0xF2]⟩, 0x1F) := by
  decide

theorem test_V17_ldAtC_A :
    yields (step { launch 0x0100 [(0x0100, 0xE2)] with a := 0x30 }) (fun t => (row t, t.bus.mem)) =
      some (⟨0x0101, 2, 8, some (.cost 2), [.wr 0xFF00 0x30, .rd 0x0100 0xE2]⟩, [(0x0100, 0xE2), (0xFF00, 0x30)]) := by
  decide

theorem test_V18_ldhA_atN :
    yields (step (launch 0x0100 [(0x0100, 0xF0), (0xFF00, 0xCF)])) (fun t => (row t, t.a)) =
      some (⟨0x0102, 3, 12, some (.cost 3), [.rd 0xFF00 0xCF, .rd 0x0101 0x00, .rd 0x0100 0xF0]⟩, 0xCF) := by
  decide

theorem test_V19_ldhAtN_A :
    yields (step { launch 0x0100 [(0x0100, 0xE0), (0x0101, 0xFF)] with a := 0x1F }) (fun t => (row t, t.bus.mem)) =
      some (⟨0x0102, 3, 12, some (.cost 3), [.wr 0xFFFF 0x1F, .rd 0x0101 0xFF, .rd 0x0100 0xE0]⟩, [(0x0100, 0xE0), (0x0101, 0xFF), (0xFFFF, 0x1F)]) := by
  decide

theorem test_V20_ldA_atHLDec_borrows :
    yields (step (launch 0x0000 [(0x0000, 0x3A)])) (fun t => (row t, t.a, t.h, t.l)) =
      some (⟨0x0001, 2, 8, some (.cost 2), [.rd 0x0000 0x3A, .rd 0x0000 0x3A]⟩, 0x3A, 0xFF, 0xFF) := by
  decide

theorem test_V21_ldA_atHLInc_wraps :
    yields (step { launch 0x0100 [(0x0100, 0x2A), (0xFFFF, 0x66)] with h := 0xFF, l := 0xFF }) (fun t => (row t, t.a, t.h, t.l)) =
      some (⟨0x0101, 2, 8, some (.cost 2), [.rd 0xFFFF 0x66, .rd 0x0100 0x2A]⟩, 0x66, 0x00, 0x00) := by
  decide

theorem test_V22_ldAtHLInc_A_carries :
    yields (step { launch 0x0100 [(0x0100, 0x22)] with a := 0xAA, l := 0xFF }) (fun t => (row t, t.h, t.l, t.bus.mem)) =
      some (⟨0x0101, 2, 8, some (.cost 2), [.wr 0x00FF 0xAA, .rd 0x0100 0x22]⟩, 0x01, 0x00, [(0x00FF, 0xAA), (0x0100, 0x22)]) := by
  decide

theorem test_V23_ldAtHLDec_A_borrows :
    yields (step { launch 0x0200 [(0x0200, 0x32)] with a := 0xBB, h := 0x01 }) (fun t => (row t, t.h, t.l, t.bus.mem)) =
      some (⟨0x0201, 2, 8, some (.cost 2), [.wr 0x0100 0xBB, .rd 0x0200 0x32]⟩, 0x00, 0xFF, [(0x0100, 0xBB), (0x0200, 0x32)]) := by
  decide

theorem test_V24_ldBC_nn :
    yields (step (launch 0x0100 [(0x0100, 0x01), (0x0101, 0x34), (0x0102, 0x12)])) (fun t => (row t, t.b, t.c)) =
      some (⟨0x0103, 3, 12, some (.cost 3), [.rd 0x0102 0x12, .rd 0x0101 0x34, .rd 0x0100 0x01]⟩, 0x12, 0x34) := by
  decide

theorem test_V25_ldSP_nn_operands_wrap :
    yields (step (launch 0xFFFF [(0x0000, 0xFE), (0x0001, 0xFF), (0xFFFF, 0x31)])) (fun t => (row t, t.sp)) =
      some (⟨0x0002, 3, 12, some (.cost 3), [.rd 0x0001 0xFF, .rd 0x0000 0xFE, .rd 0xFFFF 0x31]⟩, 0xFFFE) := by
  decide

theorem test_V26_ldSP_HL_reads_no_memory :
    yields (step { launch 0x0100 [(0x00DF, 0x11), (0x00FF, 0x22), (0x0100, 0xF9)] with h := 0xDF, l := 0xFF, sp := 0xFFFE }) (fun t => (row t, t.sp)) =
      some (⟨0x0101, 2, 8, some (.cost 2), [.rd 0x0100 0xF9]⟩, 0xDFFF) := by
  decide

theorem test_V27_ldHL_nn :
    yields (step { launch 0x0100 [(0x0100, 0x21), (0x0102, 0x80)] with h := 0x11, l := 0x22 }) (fun t => (row t, t.h, t.l)) =
      some (⟨0x0103, 3, 12, some (.cost 3), [.rd 0x0102 0x80, .rd 0x0101 0x00, .rd 0x0100 0x21]⟩, 0x80, 0x00) := by
  decide

theorem test_V28_undefined_D3_L11 :
    yields (step { launch 0x1234 [(0x1234, 0xD3)] with a := 0x01, m := 5, t := 20 }) (fun t => (row t, t.a, t.faultRecord)) =
      some (⟨0x1235, 5, 20, some (.illegalOpcode ⟨0xD3, 0x1234⟩), [.rd 0x1234 0xD3]⟩, 0x01, [⟨0xD3, 0x1234⟩]) := by
  decide

theorem test_V29_undefined_FC_wraps_pc :
    yields (step (launch 0xFFFF [(0xFFFF, 0xFC)])) (fun t => row t) =
      some ⟨0x0000, 0, 0, some (.illegalOpcode ⟨0xFC, 0xFFFF⟩), [.rd 0xFFFF 0xFC]⟩ := by
  decide

theorem test_V30_undefined_76 :
    yields (step (launch 0x0100 [(0x0100, 0x76)])) (fun t => row t) =
      some ⟨0x0101, 0, 0, some (.illegalOpcode ⟨0x76, 0x0100⟩), [.rd 0x0100 0x76]⟩ := by
  decide

theorem test_V31_undefined_CB_next_byte_unread :
    yields (step (launch 0x0100 [(0x0100, 0xCB), (0x0101, 0x37)])) (fun t => row t) =
      some ⟨0x0101, 0, 0, some (.illegalOpcode ⟨0xCB, 0x0100⟩), [.rd 0x0100 0xCB]⟩ := by
  decide

theorem test_V32_undefined_ED :
    yields (step (launch 0x0100 [(0x0100, 0xED)])) (fun t => row t) =
      some ⟨0x0101, 0, 0, some (.illegalOpcode ⟨0xED, 0x0100⟩), [.rd 0x0100 0xED]⟩ := by
  decide

/-- An earlier IllegalOpcode stays on record over a completed step (60_exceptions.md R505). -/
theorem test_record_is_sticky :
    yields (step { launch 0x0100 [] with faultRecord := [⟨0xD3, 0x1234⟩] }) (fun t => (t.faultRecord, t.result)) =
      some ([⟨0xD3, 0x1234⟩], some (.cost 1)) := by
  decide

/-- A write to read-only memory is issued and ignored (20_memory.md R74). -/
theorem test_rom_ignores_a_store :
    yields (step { launch 0x0100 [(0x0100, 0x77)] with
        a := 0x5A, bus := { ram [(0x0100, 0x77)] with map := [⟨0x0000, 0x8000, .rom⟩] } })
      (fun t => (t.bus.mem, t.bus.trace)) =
      some ([(0x0100, 0x77)], [.wr 0x0000 0x5A, .rd 0x0100 0x77]) := by
  decide

/-- A placed instruction is the next one run, also where the opcode stands at 0xFFFF (log 14). -/
theorem test_withFetchWord :
    yields (step ((launch 0xFFFF []).withFetchWord 24 0xFFFE31)) (fun t => (t.sp, t.pc)) = some (0xFFFE, 0x0002) := by
  decide

/-- The step stops before the first reset and in the halted mode (10_state.md R50, 40_dispatch.md R147). -/
theorem test_stops :
    step (.constructed (ram [])) = .fault .registerReadBeforeReset ∧
    step { State.reset with mode := .halted } = .fault .stuckHalted := ⟨rfl, rfl⟩

/-! ## Witnesses -/

/-- A core at the top of memory with an instruction's bytes there. -/
def top (opcode lo hi : Byte) : State :=
  launch 0xFFFF (Memory.write (Memory.write (Memory.write [] 0xFFFF opcode) 0 lo) 1 hi)

theorem witness_DecoderTotal : slotOf 0x03 = .undefinedSlot ∧ slotOf 0xFF = .undefinedSlot := ⟨rfl, rfl⟩

theorem witness_EncodingFields :
    template .ldA_L = .regReg .a .l ∧ template (.ldB_n 0xFF) = .regImm .b 0xFF ∧ template .ldH_atHL = .regInd .h .hl ∧
    template .ldA_atBC = .regInd .a .bc ∧ template .ldA_atDE = .regInd .a .de ∧ template .ldAtHL_A = .indReg .hl .a ∧
    template .ldAtBC_A = .indReg .bc .a ∧ template .ldAtDE_A = .indReg .de .a ∧
    template (.ldAtHL_n 0xFF) = .indImm .hl 0xFF ∧ template (.ldA_atNN 0xFFFF) = .regAbs .a 0xFFFF ∧
    template (.ldAtNN_A 0x0000) = .absReg 0x0000 .a ∧ template .ldA_atC = .regPageReg .a .c ∧
    template .ldAtC_A = .pageRegReg .c .a ∧ template (.ldhA_atN 0xFF) = .regPageImm .a 0xFF ∧
    template (.ldhAtN_A 0x00) = .pageImmReg 0x00 .a ∧ template .ldA_atHLInc = .loadInc .a ∧
    template .ldAtHLInc_A = .storeInc .a ∧ template .ldA_atHLDec = .loadDec .a ∧ template .ldAtHLDec_A = .storeDec .a ∧
    template (.ldHL_nn 0xFFFF) = .pairImm .hl 0xFFFF ∧ template (.ldSP_nn 0xFFFF) = .spImm 0xFFFF ∧
    template .ldSP_HL = .spPair .hl ∧ template .nop = .nop ∧ template (.undefined 0xFF) = .undefinedSlot 0xFF := by decide

theorem witness_DecodeEncode : (Instr.ldA_atNN 0xFFFF).wf = true ∧ (Instr.undefined 0xFF).wf = true := by decide

theorem witness_EncodeDecode :
    decode [0x3E, 0x42, 0x00] = .ok (.ldA_n 0x42) [0x00] ∧ decode [0xFF] = .ok (.undefined 0xFF) [] := by decide

/-- The launch states of the step clauses: ready, and the Bus answers the bytes in turn, over the wrap. -/
theorem presents_top (opcode lo hi : Byte) (h : (top opcode lo hi).bus.presents 0xFFFF [opcode, lo, hi]) :
    (top opcode lo hi).Presents [opcode, lo, hi] := ⟨⟨rfl, rfl⟩, h⟩

theorem witness_StepRunsDecoded :
    decode [0xFA, 0x10, 0xC0] = .ok (.ldA_atNN 0xC010) [] ∧ (top 0xFA 0x10 0xC0).Presents [0xFA, 0x10, 0xC0] :=
  ⟨by decide, presents_top _ _ _ ⟨by decide, by decide, by decide, trivial⟩⟩

theorem witness_StepStops :
    (State.constructed (ram [])).phase = .constructed ∧
    (State.phase { State.reset with mode := .halted } = .ready ∧
      State.mode { State.reset with mode := .halted } = .halted) := ⟨rfl, rfl, rfl⟩

theorem witness_StepAlwaysAnswers : State.reset.Ready := ⟨rfl, rfl⟩

theorem witness_ModeStaysRunning :
    State.reset.mode = .running ∧ ∃ t u, exec .nop State.reset = .next t ∧ runSteps 1 State.reset = .next u :=
  ⟨rfl, _, _, rfl, rfl⟩

/-- One opcode at 0xFFFF, for the statements about instructions of one byte. -/
theorem presents_one (opcode : Byte) (h : (top opcode 0 0).bus.answer 0xFFFF = opcode) :
    (top opcode 0 0).Presents [opcode] := ⟨⟨rfl, rfl⟩, h, trivial⟩

/-- An opcode at 0xFFFF and its operand at 0x0000. -/
theorem presents_two (opcode n : Byte) (h : (top opcode n 0).bus.presents 0xFFFF [opcode, n]) :
    (top opcode n 0).Presents [opcode, n] := ⟨⟨rfl, rfl⟩, h⟩

theorem witness_NoOperation : (top 0x00 0 0).Presents [0x00] := presents_one _ (by decide)

theorem witness_LdRegReg :
    template .ldH_L = .regReg .h .l ∧ encode .ldH_L = [0x65] ∧ (top 0x65 0 0).Presents [0x65] :=
  ⟨rfl, rfl, presents_one _ (by decide)⟩

theorem witness_LdRegImm :
    template (.ldL_n 0xFF) = .regImm .l 0xFF ∧ encode (.ldL_n 0xFF) = [0x2E, 0xFF] ∧
    (top 0x2E 0xFF 0).Presents [0x2E, 0xFF] :=
  ⟨rfl, rfl, presents_two _ _ ⟨by decide, by decide, trivial⟩⟩

theorem witness_LdAImm : (top 0x3E 0xFF 0).Presents [0x3E, 0xFF] :=
  presents_two _ _ ⟨by decide, by decide, trivial⟩

/-- The destination is half of the address pair, and `hl` is 0x0000. -/
theorem witness_LdRegInd :
    template .ldH_atHL = .regInd .h .hl ∧ encode .ldH_atHL = [0x66] ∧ (top 0x66 0x77 0).Presents [0x66] ∧
    ((top 0x66 0x77 0).bus.after [.rd 0xFFFF 0x66]).answer ((top 0x66 0x77 0).pair .hl) = 0x77 :=
  ⟨rfl, rfl, ⟨⟨rfl, rfl⟩, by decide, trivial⟩, by decide⟩

theorem witness_LdIndReg :
    template .ldAtHL_L = .indReg .hl .l ∧ encode .ldAtHL_L = [0x75] ∧ (top 0x75 0 0).Presents [0x75] :=
  ⟨rfl, rfl, presents_one _ (by decide)⟩

theorem witness_LdIndImm :
    template (.ldAtHL_n 0xFF) = .indImm .hl 0xFF ∧ encode (.ldAtHL_n 0xFF) = [0x36, 0xFF] ∧
    (top 0x36 0xFF 0).Presents [0x36, 0xFF] :=
  ⟨rfl, rfl, presents_two _ _ ⟨by decide, by decide, trivial⟩⟩

/-- A load from 0xFFFF, which is the opcode's own address, and a store to 0xFFFF. -/
theorem witness_LdAbsolute :
    (top 0xFA 0xFF 0xFF).Presents [0xFA, 0xFF, 0xFF] ∧
    ((top 0xFA 0xFF 0xFF).bus.after [.rd 0xFFFF 0xFA, .rd 0x0000 0xFF, .rd 0x0001 0xFF]).answer (mkWord 0xFF 0xFF) = 0xFA ∧
    (top 0xEA 0xFF 0xFF).Presents [0xEA, 0xFF, 0xFF] :=
  ⟨presents_top _ _ _ ⟨by decide, by decide, by decide, trivial⟩, by decide,
    presents_top _ _ _ ⟨by decide, by decide, by decide, trivial⟩⟩

theorem witness_LdPageReg :
    (top 0xF2 0 0).Presents [0xF2] ∧
    ((top 0xF2 0 0).bus.after [.rd 0xFFFF 0xF2]).answer (pageAddress (top 0xF2 0 0).c) = 0x00 ∧
    (top 0xE2 0 0).Presents [0xE2] :=
  ⟨presents_one _ (by decide), by decide, presents_one _ (by decide)⟩

theorem witness_LdPageImm :
    (top 0xF0 0xFF 0).Presents [0xF0, 0xFF] ∧
    ((top 0xF0 0xFF 0).bus.after [.rd 0xFFFF 0xF0, .rd 0x0000 0xFF]).answer (pageAddress 0xFF) = 0xF0 ∧
    (top 0xE0 0x00 0).Presents [0xE0, 0x00] :=
  ⟨presents_two _ _ ⟨by decide, by decide, trivial⟩, by decide, presents_two _ _ ⟨by decide, by decide, trivial⟩⟩

/-- `hl` is 0x0000, so the decrement wraps. -/
theorem witness_LdHLStepLoads :
    (top 0x2A 0x99 0).Presents [0x2A] ∧
    ((top 0x2A 0x99 0).bus.after [.rd 0xFFFF 0x2A]).answer ((top 0x2A 0x99 0).pair .hl) = 0x99 ∧
    (top 0x3A 0x99 0).Presents [0x3A] ∧
    ((top 0x3A 0x99 0).bus.after [.rd 0xFFFF 0x3A]).answer ((top 0x3A 0x99 0).pair .hl) = 0x99 :=
  ⟨⟨⟨rfl, rfl⟩, by decide, trivial⟩, by decide, ⟨⟨rfl, rfl⟩, by decide, trivial⟩, by decide⟩

theorem witness_LdHLStepStores : (top 0x22 0 0).Presents [0x22] ∧ (top 0x32 0 0).Presents [0x32] :=
  ⟨presents_one _ (by decide), presents_one _ (by decide)⟩

/-- Each clause has a state: the plain load and the plain store answer, and so do the four compound forms. -/
theorem witness_HLDelegation :
    (∃ t, exec .ldA_atHL State.reset = .next t) ∧ (∃ t, exec .ldAtHL_A State.reset = .next t) ∧
    (∃ t, exec .ldA_atHLInc State.reset = .next t) ∧ (∃ t, exec .ldA_atHLDec State.reset = .next t) ∧
    (∃ t, exec .ldAtHLInc_A State.reset = .next t) ∧ (∃ t, exec .ldAtHLDec_A State.reset = .next t) :=
  ⟨⟨_, rfl⟩, ⟨_, rfl⟩, ⟨_, rfl⟩, ⟨_, rfl⟩, ⟨_, rfl⟩, ⟨_, rfl⟩⟩

theorem witness_LdPairImm :
    template (.ldHL_nn 0x80FF) = .pairImm .hl 0x80FF ∧ encode (.ldHL_nn 0x80FF) = [0x21, 0xFF, 0x80] ∧
    (top 0x21 0xFF 0x80).Presents [0x21, 0xFF, 0x80] :=
  ⟨rfl, rfl, presents_top _ _ _ ⟨by decide, by decide, by decide, trivial⟩⟩

theorem witness_LdStackPointer :
    (top 0x31 0xFE 0xFF).Presents [0x31, 0xFE, 0xFF] ∧ (top 0xF9 0 0).Presents [0xF9] :=
  ⟨presents_top _ _ _ ⟨by decide, by decide, by decide, trivial⟩, presents_one _ (by decide)⟩

theorem witness_UndefinedSlot :
    (0xFF : Byte).toNat ∈ undefinedOpcodes ∧ (top 0xFF 0 0).Presents [0xFF] :=
  ⟨by decide, presents_one _ (by decide)⟩

theorem witness_UndefinedDecode :
    (top 0xCB 0x37 0).Ready ∧ (top 0xCB 0x37 0).bus.answer 0xFFFF = 0xCB ∧ slotOf 0xCB = .undefinedSlot :=
  ⟨⟨rfl, rfl⟩, by decide, rfl⟩

/-- A form that stores (its address 0x0000) and a form that stores nothing. -/
theorem witness_Frame :
    (∃ t, exec .ldAtHL_A State.reset = .next t) ∧ (template .ldAtHL_A).storeAddress State.reset = some 0x0000 ∧
    (∃ t, exec .ldA_atHL State.reset = .next t) ∧ (template .ldA_atHL).storeAddress State.reset = none ∧
    (template .ldA_atHL).writesSp = false :=
  ⟨⟨_, rfl⟩, by decide, ⟨_, rfl⟩, by decide, rfl⟩

theorem witness_ClockStep :
    (Instr.ldA_atNN 0xC010).wf = true ∧ (top 0xFA 0x10 0xC0).Presents (encode (.ldA_atNN 0xC010)) ∧
    (template (.ldA_atNN 0xC010)).cost = some 4 ∧ (Instr.undefined 0xFF).wf = true ∧
    (top 0xFF 0 0).Presents (encode (.undefined 0xFF)) ∧ (template (.undefined 0xFF)).cost = none :=
  ⟨by decide, presents_top _ _ _ ⟨by decide, by decide, by decide, trivial⟩, rfl, by decide,
    presents_one _ (by decide), rfl⟩

theorem witness_StepPc :
    (Instr.ldSP_nn 0xFFFE).wf = true ∧ (top 0x31 0xFE 0xFF).Presents (encode (.ldSP_nn 0xFFFE)) ∧
    ∃ t, exec (.ldSP_nn 0xFFFE) State.reset = .next t :=
  ⟨by decide, presents_top _ _ _ ⟨by decide, by decide, by decide, trivial⟩, _, rfl⟩

/-- A step that stores, and a form of each kind: storing, loading, neither. -/
theorem witness_TransactionOrder :
    (top 0x77 0 0).Ready ∧ (∃ t, step (top 0x77 0 0) = .next t) ∧
    (template .ldAtHL_A).storeAddress State.reset = some 0x0000 ∧
    (template .ldA_atHL).loadAddress State.reset = some 0x0000 ∧
    (template .nop).loadAddress State.reset = none ∧ (template .nop).storeAddress State.reset = none :=
  ⟨⟨rfl, rfl⟩, ⟨_, rfl⟩, by decide, by decide, rfl, rfl⟩

theorem witness_FlagRegisterUnused : ∃ t, step (top 0x77 0 0) = .next t := ⟨_, rfl⟩

theorem witness_ClockUnread : ∃ t, step (top 0xFF 0 0) = .next t := ⟨_, rfl⟩

theorem witness_StackPointerUnread :
    (∃ t, exec (.ldSP_nn 0xFFFE) State.reset = .next t ∧ t.sp ≠ State.reset.sp) ∧
    (∃ t, exec .nop State.reset = .next t) ∧ ∃ t, step (top 0xF9 0 0) = .next t :=
  ⟨⟨_, rfl, by decide⟩, ⟨_, rfl⟩, _, rfl⟩

/-- Another bus with the same answers: it holds another byte elsewhere and has an earlier transaction. -/
theorem witness_DeterminedByAnswers :
    ∃ t, step (top 0x7E 0x99 0) = .next t ∧
      t.bus.trace = [Transaction.rd 0xFFFF 0x7E, .rd 0x0000 0x99].reverse ++ (top 0x7E 0x99 0).bus.trace ∧
      Bus.agrees { mem := [(0x0000, 0x99), (0x8000, 0x01), (0xFFFF, 0x7E)], map := [], trace := [.wr 0x8000 0x01] }
        [.rd 0xFFFF 0x7E, .rd 0x0000 0x99] :=
  ⟨_, rfl, rfl, by decide, by decide, trivial⟩

theorem witness_RegisterWrites : Reg8.f ≠ Reg8.a := by decide

theorem witness_PairWrites : Reg8.a ≠ Pair.hl.hi ∧ Reg8.a ≠ Pair.hl.lo := by decide

theorem witness_MemoryWrites :
    Memory.wf [(0x0000, 0x01), (0xFFFF, 0x02)] = true ∧ 0xFFFF < 2 ^ 16 ∧ (0x0000 : Nat) ≠ 0xFFFF := by decide

/-- Two ways to one memory: the second writes a byte and takes it back. -/
theorem witness_MemoryCanonical :
    Memory.wf (Memory.write [] 0 0x01) = true ∧
    Memory.wf (Memory.write (Memory.write (Memory.write [] 0xFFFF 0x02) 0 0x01) 0xFFFF 0x00) = true ∧
    ∀ x, Memory.read (Memory.write [] 0 0x01) x =
      Memory.read (Memory.write (Memory.write (Memory.write [] 0xFFFF 0x02) 0 0x01) 0xFFFF 0x00) x :=
  ⟨by decide, by decide, fun _ => rfl⟩

/-- A map with every kind: read-only below 0x8000, RAM from there, one fixed page, devices in the I/O page. -/
def mapped : Bus :=
  { mem := [(0x7FFF, 0x01), (0x8000, 0x02)]
    map := [⟨0x0000, 0x8000, .rom⟩, ⟨0xFE00, 0x100, .fixed 0xFF⟩, ⟨0xFF00, 0x100, .device⟩], trace := [] }

/-- Each kind at the first and the last address of its region. -/
theorem witness_BusPolicy :
    Memory.wf mapped.mem = true ∧ mapped.kindAt 0x0000 = .rom ∧ mapped.kindAt 0x7FFF = .rom ∧
    mapped.kindAt 0x8000 = .ram ∧ mapped.kindAt 0xFDFF = .ram ∧ mapped.kindAt 0xFE00 = .fixed 0xFF ∧
    mapped.kindAt 0xFEFF = .fixed 0xFF ∧ mapped.kindAt 0xFF00 = .device ∧ mapped.kindAt 0xFFFF = .device := by decide

/-- A word at 0xFFFF, its high byte at 0x0000. -/
theorem witness_WordAccess :
    (launch 0 [(0x0000, 0x12), (0xFFFF, 0x34)]).bus.answer 0xFFFF = 0x34 ∧
    ((launch 0 [(0x0000, 0x12), (0xFFFF, 0x34)]).bus.after [.rd 0xFFFF 0x34]).answer (0xFFFF + 1) = 0x12 ∧
    Memory.wf (launch 0 [(0x0000, 0x12), (0xFFFF, 0x34)]).bus.mem = true ∧
    (launch 0 [(0x0000, 0x12), (0xFFFF, 0x34)]).bus.kindAt 0xFFFF = .ram ∧
    (launch 0 [(0x0000, 0x12), (0xFFFF, 0x34)]).bus.kindAt (0xFFFF + 1) = .ram := by decide

/-- The program P3 of 95_test_vectors.md at 0x000D: `hl` is the address of the next opcode. -/
def selfModifying : State :=
  { launch 0x000D [(0x000D, 0x36), (0x000F, 0xD3)] with l := 0x0F }

theorem witness_StoreThenFetch :
    (Instr.ldAtHL_n 0x00).wf = true ∧ selfModifying.Presents (encode (.ldAtHL_n 0x00)) ∧
    Memory.wf selfModifying.bus.mem = true ∧
    (template (.ldAtHL_n 0x00)).storeAddress (selfModifying.fetched (encode (.ldAtHL_n 0x00))) = some 0x000F ∧
    (template (.ldAtHL_n 0x00)).storedByte (selfModifying.fetched (encode (.ldAtHL_n 0x00))) = some 0x00 ∧
    selfModifying.bus.kindAt 0x000F = .ram ∧ 0x000F = (selfModifying.fetched (encode (.ldAtHL_n 0x00))).pc :=
  ⟨rfl, ⟨⟨rfl, rfl⟩, by decide, by decide, trivial⟩, by decide, by decide, by decide, by decide, by decide⟩

/-- The other storing forms name an address and a byte too. -/
theorem witness_StoreThenFetch_forms :
    (template .ldAtHL_A).storedByte State.reset = some 0x00 ∧ (template .ldAtBC_A).storedByte State.reset = some 0x00 ∧
    (template (.ldAtNN_A 0xFFFF)).storeAddress State.reset = some 0xFFFF ∧
    (template .ldAtC_A).storeAddress State.reset = some 0xFF00 ∧
    (template (.ldhAtN_A 0xFF)).storeAddress State.reset = some 0xFFFF ∧
    (template .ldAtHLInc_A).storedByte State.reset = some 0x00 ∧
    (template .ldAtHLDec_A).storeAddress State.reset = some 0x0000 := by decide

theorem witness_HostActions :
    State.reset.phase = .ready ∧ (State.constructed (ram [])).phase = .constructed := ⟨rfl, rfl⟩

/-- Both outcomes: IllegalOpcode and a cost. -/
theorem witness_FaultRecordSticky :
    (∃ t, step (top 0xFF 0 0) = .next t) ∧ ∃ t, step (top 0x00 0 0) = .next t := ⟨⟨_, rfl⟩, _, rfl⟩

theorem witness_RunNeverStops : (top 0xFF 0x00 0xD3).Ready := ⟨rfl, rfl⟩

/-- A state with the invariant that no reset gives: memory, a clock and a recorded fault. -/
theorem witness_StepKeepsInv :
    State.Inv { top 0x77 0 0 with m := 5, t := 20, faultRecord := [⟨0xD3, 0x1234⟩] } ∧
    ∃ t, step { top 0x77 0 0 with m := 5, t := 20, faultRecord := [⟨0xD3, 0x1234⟩] } = .next t :=
  ⟨⟨⟨rfl, rfl⟩, rfl, by decide, by decide⟩, _, rfl⟩

theorem witness_HostKeepsInv :
    State.Inv (top 0x77 0 0) ∧ (∃ t, hostAct .reset (top 0x77 0 0) = .next t) ∧
    (∃ t, hostAct .step (top 0x77 0 0) = .next t) ∧ ∃ t, hostAct .snapshot (top 0x77 0 0) = .next t :=
  ⟨⟨⟨rfl, rfl⟩, rfl, by decide, by decide⟩, ⟨_, rfl⟩, ⟨_, rfl⟩, _, rfl⟩

theorem witness_PlacedInstructionRuns :
    Memory.wf (top 0x77 0 0).bus.mem = true ∧ decodeTableWord 24 0xFFFF31 = some (.ldSP_nn 0xFFFF) := by decide

end Sys2Proof.Tests
end

/-! PROOFS. The words of two bytes and the integers that registers take, read as numbers. -/

section
namespace Sys2Proof

theorem mkWord_toNat (hi lo : Byte) : (mkWord hi lo).toNat = 256 * hi.toNat + lo.toNat := by
  rw [mkWord, BitVec.toNat_append, ← Nat.shiftLeft_add_eq_or_of_lt lo.isLt, Nat.shiftLeft_eq, Nat.mul_comm]

theorem hiByte_toNat (w : Word) : (hiByte w).toNat = w.toNat / 256 := by
  have hw := w.isLt
  rw [hiByte, BitVec.extractLsb'_toNat, Nat.shiftRight_eq_div_pow]
  omega

theorem loByte_toNat (w : Word) : (loByte w).toNat = w.toNat % 256 := by
  rw [loByte, BitVec.extractLsb'_toNat, Nat.shiftRight_zero]

theorem loByte_add_one (w : Word) : loByte (w + 1) = loByte w + 1 := by
  apply BitVec.eq_of_toNat_eq
  rw [loByte_toNat, BitVec.toNat_add, BitVec.toNat_add, loByte_toNat]
  exact (Nat.mod_mod_of_dvd _ (by decide)).trans (Nat.mod_add_mod ..).symm

theorem loByte_sub_one (w : Word) : loByte (w - 1) = loByte w - 1 := by
  rw [BitVec.eq_sub_iff_add_eq, ← loByte_add_one, BitVec.sub_add_cancel]

/-- The carry out of the low byte goes into the high one. -/
theorem hiByte_add_one (w : Word) : hiByte (w + 1) = if loByte w = 0xFF then hiByte w + 1 else hiByte w := by
  have hlo : loByte w = 0xFF ↔ w.toNat % 256 = 255 := by rw [← BitVec.toNat_inj, loByte_toNat]; rfl
  have hw := w.isLt
  apply BitVec.eq_of_toNat_eq
  simp only [hlo]
  split
  · simp only [hiByte_toNat, BitVec.toNat_add, BitVec.reduceToNat]; omega
  · simp only [hiByte_toNat, BitVec.toNat_add, BitVec.reduceToNat]; omega

/-- The borrow out of the low byte comes from the high one. -/
theorem hiByte_sub_one (w : Word) : hiByte (w - 1) = if loByte w = 0x00 then hiByte w - 1 else hiByte w := by
  have h := hiByte_add_one (w - 1)
  rw [BitVec.sub_add_cancel, loByte_sub_one] at h
  have hlo : loByte w - 1 = 0xFF ↔ loByte w = 0x00 := BitVec.sub_eq_iff_eq_add
  simp only [hlo] at h
  split at h
  · rename_i h0; rw [if_pos h0, h, BitVec.add_sub_cancel]
  · rename_i h0; rw [if_neg h0, h]

/-- Storing an integer in `w` bits masks it (10_state.md R33). -/
theorem toNat_ofInt_eq_emod (w : Nat) (v : Int) : ((BitVec.ofInt w v).toNat : Int) = v % 2 ^ w := by
  have hpow : ((2 ^ w : Nat) : Int) = 2 ^ w := Int.natCast_pow 2 w
  have hne : (2 : Int) ^ w ≠ 0 := Int.pow_ne_zero (by decide)
  rw [BitVec.toNat_ofInt, hpow, Int.toNat_of_nonneg (Int.emod_nonneg v hne)]

end Sys2Proof
end

/-! PROOFS. The decoder: every slot is an Undefined one of the 165 or gives well-formed instructions, and it inverts the
encoder. -/

section
namespace Sys2Proof

/-- Whether what a slot gives for these operands is well-formed; an Undefined slot gives no operation. -/
def Slot.wfAt (n : Byte) (nn : Word) : Slot → Bool
  | .f1 i => i.wf
  | .f2 withByte => (withByte n).wf
  | .f3 withWord => (withWord nn).wf
  | .undefinedSlot => false

theorem implementedRows_wfAt (n : Byte) (nn : Word) : ∀ row ∈ implementedRows, row.2.wfAt n nn = true :=
  List.all_eq_true.1 rfl

theorem wf_undefined_iff (op : Byte) : (Instr.undefined op).wf = true ↔ op.toNat ∈ undefinedOpcodes :=
  List.contains_iff_mem

/-- The implemented and the Undefined opcodes are the 256 byte values, each once. -/
theorem opcodes_perm_range : (implementedRows.map Prod.fst ++ undefinedOpcodes).Perm (List.range 256) := by
  decide +kernel

theorem mem_undefinedOpcodes_iff {n : Nat} (hn : n < 256) :
    n ∈ undefinedOpcodes ↔ n ∉ implementedRows.map Prod.fst := by
  have hmem : n ∈ implementedRows.map Prod.fst ∨ n ∈ undefinedOpcodes :=
    List.mem_append.1 (opcodes_perm_range.mem_iff.2 (List.mem_range.2 hn))
  obtain ⟨-, -, hdisj⟩ := List.nodup_append.1 (opcodes_perm_range.nodup_iff.2 List.nodup_range)
  exact ⟨fun hu hi => hdisj n hi n hu rfl, hmem.resolve_left⟩

theorem slotOf_of_mem_undefinedOpcodes {op : Byte} (h : op.toNat ∈ undefinedOpcodes) : slotOf op = .undefinedSlot :=
  slotOf_of_not_listed ((mem_undefinedOpcodes_iff op.isLt).1 h)

/-- A slot of the Operation Table is Undefined, its opcode being one of the 165, or gives well-formed instructions. -/
theorem slotOf_cases (op : Byte) :
    (slotOf op = .undefinedSlot ∧ op.toNat ∈ undefinedOpcodes) ∨ ∀ n nn, (slotOf op).wfAt n nn = true := by
  rcases findSlot_cases implementedRows op.toNat with hrow | ⟨hn, hslot⟩
  · exact .inr fun n nn => implementedRows_wfAt n nn _ hrow
  · exact .inl ⟨hslot, (mem_undefinedOpcodes_iff op.isLt).2 hn⟩

theorem decodeOperands_wf {op : Byte} {slot : Slot} {bytes rest : List Byte} {i : Instr}
    (hslot : ∀ n nn, slot.wfAt n nn = true) (h : decodeOperands op slot bytes = .ok i rest) : i.wf = true := by
  cases slot with
  | undefinedSlot => cases hslot 0 0
  | f1 j => cases h; exact hslot 0 0
  | f2 withByte =>
    match bytes, h with
    | n :: tail, h => cases h; exact hslot n 0
  | f3 withWord =>
    match bytes, h with
    | lo :: hi :: tail, h => cases h; exact hslot 0 (mkWord hi lo)

/-- What the decoder accepts is a well-formed instruction. -/
theorem decode_wf {bytes rest : List Byte} {i : Instr} (h : decode bytes = .ok i rest) : i.wf = true := by
  match bytes, h with
  | op :: tail, h =>
    rw [decode] at h
    rcases slotOf_cases op with ⟨hslot, hop⟩ | hslot
    · rw [hslot] at h
      cases h
      exact (wf_undefined_iff op).2 hop
    · exact decodeOperands_wf hslot h

/-- The decoder inverts the encoder: an operand `nn` is put together from its two bytes, and the other fields are read
off the opcode. -/
theorem decode_encode (i : Instr) (rest : List Byte) (h : i.wf = true) : decode (encode i ++ rest) = .ok i rest := by
  cases i with
  | undefined op =>
    exact congrArg (decodeOperands op · rest) (slotOf_of_mem_undefinedOpcodes ((wf_undefined_iff op).1 h))
  | ldBC_nn nn => exact congrArg (fun w => Decoded.ok (.ldBC_nn w) rest) (mkWord_hiByte_loByte nn)
  | ldDE_nn nn => exact congrArg (fun w => Decoded.ok (.ldDE_nn w) rest) (mkWord_hiByte_loByte nn)
  | ldHL_nn nn => exact congrArg (fun w => Decoded.ok (.ldHL_nn w) rest) (mkWord_hiByte_loByte nn)
  | ldSP_nn nn => exact congrArg (fun w => Decoded.ok (.ldSP_nn w) rest) (mkWord_hiByte_loByte nn)
  | ldAtNN_A nn => exact congrArg (fun w => Decoded.ok (.ldAtNN_A w) rest) (mkWord_hiByte_loByte nn)
  | ldA_atNN nn => exact congrArg (fun w => Decoded.ok (.ldA_atNN w) rest) (mkWord_hiByte_loByte nn)
  | _ => rfl

end Sys2Proof
end

/-! PROOFS. Frames: what a transfer, a template and so an instruction changes and leaves unchanged. -/

section
namespace Sys2Proof.Machine

section
variable (dst : Reg8) (addr : Word) (v : Byte) (s : State) (r : Reg8)

@[simp] theorem loadFrom_pc : (loadFrom dst addr s).pc = s.pc := setReg_pc ..
@[simp] theorem loadFrom_sp : (loadFrom dst addr s).sp = s.sp := setReg_sp ..
@[simp] theorem loadFrom_m : (loadFrom dst addr s).m = s.m := setReg_m ..
@[simp] theorem loadFrom_t : (loadFrom dst addr s).t = s.t := setReg_t ..
@[simp] theorem loadFrom_mode : (loadFrom dst addr s).mode = s.mode := setReg_mode ..
@[simp] theorem loadFrom_phase : (loadFrom dst addr s).phase = s.phase := setReg_phase ..
@[simp] theorem loadFrom_faultRecord : (loadFrom dst addr s).faultRecord = s.faultRecord := setReg_faultRecord ..
@[simp] theorem loadFrom_bus : (loadFrom dst addr s).bus = s.bus.afterRead addr := setReg_bus ..
@[simp] theorem reg_storeTo : (storeTo addr v s).reg r = s.reg r := reg_writeByte ..

theorem reg_loadFrom_ne {dst r : Reg8} (h : r ≠ dst) : (loadFrom dst addr s).reg r = s.reg r := by
  rw [loadFrom, reg_setReg_ne _ _ _ _ h, reg_readByte]

end

theorem reg_of_finish {c : Nat} {u t : State} (h : finish c u = .next t) (r : Reg8) : t.reg r = u.reg r := by
  cases h
  cases r <;> rfl

section
variable {tm : Template} {s t : State}

theorem run_control (h : tm.run s = .next t) : t.pc = s.pc ∧ t.mode = s.mode ∧ t.phase = s.phase := by
  cases tm <;> cases h <;> simp [storeTo]

/-- A template completes, adding its cost to the clock and nothing to the fault record, or it is an Undefined slot's and
does the opposite. -/
theorem run_clock (h : tm.run s = .next t) :
    (∃ c, tm.cost = some c ∧ t.m = s.m + c ∧ t.t = s.t + 4 * c ∧ t.result = some (.cost c) ∧
      t.faultRecord = s.faultRecord) ∨
    (∃ op, tm = .undefinedSlot op ∧ t.m = s.m ∧ t.t = s.t ∧ t.result = some (.illegalOpcode ⟨op, s.pc - 1⟩) ∧
      t.faultRecord = ⟨op, s.pc - 1⟩ :: s.faultRecord) := by
  cases tm <;> cases h <;> simp [storeTo, Template.cost]

/-- A template issues no data transaction, or one read, or one write, at the address it names. -/
theorem run_bus (h : tm.run s = .next t) :
    (tm.loadAddress s = none ∧ tm.storeAddress s = none ∧ t.bus = s.bus) ∨
    (∃ addr, tm.loadAddress s = some addr ∧ tm.storeAddress s = none ∧ t.bus = s.bus.afterRead addr) ∨
    (∃ addr v, tm.loadAddress s = none ∧ tm.storeAddress s = some addr ∧ tm.storedByte s = some v ∧
      t.bus = s.bus.afterWrite addr v) := by
  cases tm <;> cases h <;> simp [storeTo, Template.loadAddress, Template.storeAddress, Template.storedByte]

theorem run_sp (h : tm.run s = .next t) (hsp : tm.writesSp = false) : t.sp = s.sp := by
  cases tm <;> cases hsp <;> cases h <;> simp [storeTo]

theorem run_reg (h : tm.run s = .next t) {r : Reg8} (hr : r ∉ tm.writes) : t.reg r = s.reg r := by
  cases tm with
  | undefinedSlot => cases h; cases r <;> rfl
  | nop => exact reg_of_finish h r
  | spImm | spPair => exact (reg_of_finish h r).trans (reg_setSp ..)
  | regReg | regImm => exact (reg_of_finish h r).trans (reg_setReg_ne _ _ _ _ (List.ne_of_not_mem_cons hr))
  | regInd | regAbs | regPageReg | regPageImm =>
    exact (reg_of_finish h r).trans (reg_loadFrom_ne _ _ (List.ne_of_not_mem_cons hr))
  | indReg | indImm | absReg | pageRegReg | pageImmReg => exact (reg_of_finish h r).trans (reg_storeTo ..)
  | pairImm =>
    obtain ⟨hh, hl⟩ : r ≠ _ ∧ r ≠ _ := by simpa [Template.writes] using hr
    rw [reg_of_finish h, reg_setPair_ne _ _ _ _ hh hl]
  | storeInc | storeDec =>
    obtain ⟨hh, hl⟩ : r ≠ .h ∧ r ≠ .l := by simpa [Template.writes] using hr
    rw [reg_of_finish h, reg_setPair_ne _ _ _ _ hh hl, reg_storeTo]
  | loadInc | loadDec =>
    obtain ⟨hd, hh, hl⟩ : r ≠ _ ∧ r ≠ .h ∧ r ≠ .l := by simpa [Template.writes] using hr
    rw [reg_of_finish h, reg_setPair_ne _ _ _ _ hh hl, reg_loadFrom_ne _ _ hd]

theorem run_map (h : tm.run s = .next t) : t.bus.map = s.bus.map := by
  rcases run_bus h with ⟨-, -, hb⟩ | ⟨addr, -, -, hb⟩ | ⟨addr, v, -, -, -, hb⟩ <;> rw [hb] <;> rfl

theorem run_wf_mem (h : tm.run s = .next t) (hw : Memory.wf s.bus.mem = true) : Memory.wf t.bus.mem = true := by
  rcases run_bus h with ⟨-, -, hb⟩ | ⟨addr, -, -, hb⟩ | ⟨addr, v, -, -, -, hb⟩ <;> rw [hb]
  · exact hw
  · exact hw
  · exact wf_stored _ _ _ hw

/-- A template leaves the byte at `x` alone unless it stores there. -/
theorem run_read_mem (h : tm.run s = .next t) {x : Nat}
    (hx : ∀ addr, tm.storeAddress s = some addr → x ≠ addr.toNat) :
    Memory.read t.bus.mem x = Memory.read s.bus.mem x := by
  rcases run_bus h with ⟨-, -, hb⟩ | ⟨addr, -, -, hb⟩ | ⟨addr, v, -, ha, -, hb⟩ <;> rw [hb]
  · rfl
  · exact read_stored_ne _ (hx _ ha) _

end

theorem eq_undefined_of_template {i : Instr} {op : Byte} (h : template i = .undefinedSlot op) : i = .undefined op := by
  cases i <;> cases h
  rfl

/-- Every instruction answers a next state. -/
theorem exec_answers (i : Instr) (s : State) : ∃ t, exec i s = .next t := by
  rw [exec_eq_run]
  cases template i <;> exact ⟨_, rfl⟩

theorem exec_control {i : Instr} {s t : State} (h : exec i s = .next t) :
    t.pc = s.pc ∧ t.mode = s.mode ∧ t.phase = s.phase :=
  run_control (exec_eq_run i s ▸ h)

/-- Settles O27: each clause is the template's own frame lemma. -/
theorem frame : Obligations.Frame := by
  intro i s t h
  rw [exec_eq_run] at h
  obtain ⟨hpc, hmode, hphase⟩ := run_control h
  refine ⟨fun r hr => run_reg h hr, run_reg h (f_not_written i), hpc, run_sp h, hmode, hphase, run_map h,
    fun hi => ?_, fun addr ha x hx => run_read_mem h ?_, fun hn x => run_read_mem h ?_⟩
  · rcases run_clock h with ⟨c, -, -, -, -, hrec⟩ | ⟨op, htm, -⟩
    · exact hrec
    · exact absurd (eq_undefined_of_template htm) (hi op)
  · rw [ha]
    rintro _ ⟨⟩
    exact hx
  · rw [hn]
    rintro _ ⟨⟩

end Sys2Proof.Machine
end

/-! PROOFS. What a step can do, said once, and what every step keeps: the run mode, the invariant. -/

section
namespace Sys2Proof.Machine

theorem step_of_constructed {s : State} (h : s.phase = .constructed) : step s = .fault .registerReadBeforeReset := by
  simp only [step, h]

theorem step_of_halted {s : State} (hp : s.phase = .ready) (hm : s.mode = .halted) : step s = .fault .stuckHalted := by
  simp only [step, hp, hm]

/-- A step runs the instruction that the presented bytes decode to. -/
theorem step_of_decode {s : State} {bytes : List Byte} {i : Instr} (hd : decode bytes = .ok i [])
    (hp : s.Presents bytes) : step s = exec i (s.fetched bytes) := by
  obtain ⟨hready, hbytes⟩ := hp
  rw [step_of_ready hready, fetchInstr_of_decode s bytes i hd hbytes]

theorem ready_of_step {s t : State} (h : step s = .next t) : s.Ready := by
  cases hp : s.phase with
  | constructed => cases (step_of_constructed hp).symm.trans h
  | ready =>
    cases hm : s.mode with
    | halted => cases (step_of_halted hp hm).symm.trans h
    | running => exact ⟨hp, hm⟩

/-- A step that answers a next state ran the instruction of the bytes the Bus presents at `pc`. -/
theorem step_inv {s t : State} (h : step s = .next t) :
    ∃ i bytes, decode bytes = .ok i [] ∧ s.Presents bytes ∧ exec i (s.fetched bytes) = .next t := by
  have hready := ready_of_step h
  obtain ⟨bytes, hd, hp, hs⟩ := fetchInstr_cases s
  exact ⟨_, bytes, hd, ⟨hready, hp⟩, by rw [← h, step_of_ready hready, hs]⟩

theorem step_keeps_mode {s t : State} (h : step s = .next t) : t.mode = s.mode := by
  obtain ⟨i, bytes, -, -, he⟩ := step_inv h
  exact (exec_control he).2.1

/-- A well-formed instruction keeps the invariant: the clock ticks four to a cycle, a memory write keeps
the canonical form, and only an Undefined slot adds to the record. -/
theorem exec_keeps_inv {i : Instr} {s t : State} (hi : i.wf = true) (hs : s.Inv) (h : exec i s = .next t) : t.Inv := by
  rw [exec_eq_run] at h
  obtain ⟨⟨hphase, hmode⟩, hticks, hmem, hfaults⟩ := hs
  obtain ⟨-, hmode', hphase'⟩ := run_control h
  have hready : t.Ready := ⟨hphase'.trans hphase, hmode'.trans hmode⟩
  have hwf := run_wf_mem h hmem
  rcases run_clock h with ⟨c, -, hm, ht, -, hrec⟩ | ⟨op, htm, hm, ht, -, hrec⟩
  · exact ⟨hready, by omega, hwf, hrec ▸ hfaults⟩
  · have hop : op.toNat ∈ undefinedOpcodes := (wf_undefined_iff op).1 (eq_undefined_of_template htm ▸ hi)
    refine ⟨hready, by omega, hwf, ?_⟩
    rw [hrec]
    exact List.forall_mem_cons.2 ⟨hop, hfaults⟩

theorem fetched_keeps_inv {s : State} (bytes : List Byte) (h : s.Inv) : (s.fetched bytes).Inv :=
  ⟨h.ready, h.ticks, h.memory, h.faults⟩

/-- Settles O47: fetching keeps the invariant, and so does the instruction the decoder gives. -/
theorem stepKeepsInv : Obligations.StepKeepsInv := by
  intro s t hs h
  obtain ⟨i, bytes, hd, -, he⟩ := step_inv h
  exact exec_keeps_inv (decode_wf hd) (fetched_keeps_inv bytes hs) he

/-- Settles O48: the reset state is ready, its clock is zero, and its memory and fault record are empty. -/
theorem resetHasInv : Obligations.ResetHasInv :=
  ⟨⟨rfl, rfl⟩, rfl, rfl, List.forall_mem_nil _⟩

/-- Settles O9, by induction on the length of the run. -/
theorem modeStaysRunning : Obligations.ModeStaysRunning := by
  refine ⟨fun mode => by cases mode <;> simp, rfl, fun _ => rfl, fun i s t h => (exec_control h).2.1, ?_⟩
  intro k
  induction k with
  | zero => rintro s _ hs ⟨⟩; exact hs
  | succ k ih =>
    intro s t hs h
    obtain ⟨u, hu, hrest⟩ := runSteps_succ_inv k h
    exact ih u t ((step_keeps_mode hu).trans hs) hrest

/-- Settles O7: the two faults by the branches of `step`, and reset leaves both. -/
theorem stepStops : Obligations.StepStops :=
  ⟨fun _ => step_of_constructed, fun _ => step_of_halted, fun _ => ⟨rfl, rfl⟩⟩

theorem template_length_bounds (tm : Template) : 1 ≤ tm.length ∧ tm.length ≤ 3 := by
  cases tm <;> simp [Template.length]

/-- Settles O29: fetching advances `pc` by the bytes fetched, which are the encoding's, and `exec` leaves it. -/
theorem stepPc : Obligations.StepPc := by
  refine ⟨fun s i hi hp => ?_, fun i s t h => (exec_control h).1⟩
  obtain ⟨t, ht⟩ := exec_answers i (s.fetched (encode i))
  have hd : decode (encode i) = .ok i [] := by simpa using decode_encode i [] hi
  refine ⟨t, (step_of_decode hd hp).trans ht, ?_, encode_length i ▸ template_length_bounds _⟩
  rw [(exec_control ht).1, fetched_pc, BitVec.toNat_add, BitVec.toNat_ofNat, Nat.add_mod_mod]

end Sys2Proof.Machine
end

/-! PROOFS. Two runs: what `f` and `sp` can influence. -/

section
namespace Sys2Proof.Machine

/-- No instruction names `f`, so each does the same with another `f` and keeps that one. -/
theorem exec_with_f {i : Instr} {s t : State} (v : Byte) (h : exec i s = .next t) :
    exec i { s with f := v } = .next { t with f := v } := by
  cases i <;> cases h <;> rfl

/-- No instruction reads `sp`, so each does the same with another `sp`, which it keeps unless it writes `sp`. -/
theorem exec_with_sp {i : Instr} {s t : State} (v : Word) (h : exec i s = .next t) :
    exec i { s with sp := v } = .next { t with sp := if (template i).writesSp then t.sp else v } := by
  cases i <;> cases h <;> rfl

theorem writesSp_template_iff (i : Instr) :
    (template i).writesSp = true ↔ (∃ nn, i = .ldSP_nn nn) ∨ i = .ldSP_HL := by
  cases i <;> simp [template, Template.writesSp]

/-- Settles O31: the two steps fetch the same bytes and run the same instruction. -/
theorem flagRegisterUnused : Obligations.FlagRegisterUnused := by
  intro s t v h
  obtain ⟨i, bytes, hd, hp, he⟩ := step_inv h
  obtain ⟨-, hf, -⟩ := frame i _ t he
  exact ⟨hf, (step_of_decode (s := { s with f := v }) hd hp).trans (exec_with_f v he)⟩

/-- Settles O33: only the two loads write `sp`, and the two runs execute the same instruction. -/
theorem stackPointerUnread : Obligations.StackPointerUnread := by
  refine ⟨fun i s t h hne => ?_, fun i s t v h => ⟨_, exec_with_sp v h, rfl, fun hw => ?_, fun hw => ?_⟩,
    fun s t v h => ?_⟩
  · rw [exec_eq_run] at h
    exact (writesSp_template_iff i).1 (Bool.not_eq_false _ ▸ fun hw => hne (run_sp h hw))
  · rw [if_pos hw]
  · exact if_neg (hw ▸ Bool.false_ne_true)
  · obtain ⟨i, bytes, hd, hp, he⟩ := step_inv h
    exact ⟨_, (step_of_decode (s := { s with sp := v }) hd hp).trans (exec_with_sp v he), rfl⟩

end Sys2Proof.Machine
end

/-! PROOFS. Registers and pairs. -/

section
namespace Sys2Proof.Machine

theorem pair_toNat (s : State) (p : Pair) : (s.pair p).toNat = 256 * (s.reg p.hi).toNat + (s.reg p.lo).toNat :=
  mkWord_toNat _ _

@[simp] theorem pair_setPair (s : State) (p : Pair) (w : Word) : (s.setPair p w).pair p = w := by
  rw [State.pair, setPair_hi, setPair_lo, mkWord_hiByte_loByte]

@[simp] theorem setPair_setPair (s : State) (p : Pair) (w u : Word) : (s.setPair p w).setPair p u = s.setPair p u := by
  cases p <;> rfl

@[simp] theorem setPair_pair (s : State) (p : Pair) : s.setPair p (s.pair p) = s := by
  rw [State.setPair, State.pair, hiByte_mkWord, loByte_mkWord, setReg_reg_same, setReg_reg_same]

/-- Settles O35: the stored value is the integer masked, and the frame is the register's. -/
theorem registerWrites : Obligations.RegisterWrites := by
  refine ⟨fun s r v => ?_, fun s r q v hq => reg_setReg_ne s r q _ hq, fun s r v => ⟨setReg_pc .., setReg_sp ..⟩,
    fun s v => ⟨toNat_ofInt_eq_emod 16 v, rfl, fun q => reg_with_pc ..⟩,
    fun s v => ⟨toNat_ofInt_eq_emod 16 v, rfl, fun q => reg_setSp ..⟩⟩
  rw [State.writeReg, reg_setReg_same]
  exact toNat_ofInt_eq_emod 8 v

/-- Settles O36: a pair is its two bytes put together, and a pair write splits the masked integer over them. -/
theorem pairWrites : Obligations.PairWrites := by
  refine ⟨fun s => ⟨pair_toNat s .bc, pair_toNat s .de, pair_toNat s .hl⟩, fun s p v => ?_⟩
  have hv := toNat_ofInt_eq_emod 16 v
  rw [State.writePair, pair_setPair, setPair_hi, setPair_lo, hiByte_toNat, loByte_toNat]
  exact ⟨hv, by omega, by omega, fun q hh hl => reg_setPair_ne s q _ p hh hl⟩

/-- Settles O37: carry and borrow are those of the word, and the second pair write overrides the first. -/
theorem pairSteps : Obligations.PairSteps := by
  intro s p
  have hlo : loByte (s.pair p) = s.reg p.lo := loByte_mkWord ..
  have hhi : hiByte (s.pair p) = s.reg p.hi := hiByte_mkWord ..
  refine ⟨?_, ?_, ?_, ?_, ?_, ?_⟩
  · rw [State.incPair, setPair_lo, loByte_add_one, hlo]
  · rw [State.incPair, setPair_hi, hiByte_add_one, hlo, hhi]
  · rw [State.decPair, setPair_lo, loByte_sub_one, hlo]
  · rw [State.decPair, setPair_hi, hiByte_sub_one, hlo, hhi]
  · rw [State.decPair, State.incPair, pair_setPair, setPair_setPair, BitVec.add_sub_cancel, setPair_pair]
  · rw [State.incPair, State.decPair, pair_setPair, setPair_setPair, BitVec.sub_add_cancel, setPair_pair]

end Sys2Proof.Machine
end

/-! PROOFS. The decoder inverted: the bytes a decoding consumed are the bytes of the instruction it gave. -/

section
namespace Sys2Proof

/-- The instruction a slot gives for these operands. -/
def Slot.instrAt (op n : Byte) (nn : Word) : Slot → Instr
  | .f1 i => i
  | .f2 withByte => withByte n
  | .f3 withWord => withWord nn
  | .undefinedSlot => .undefined op

/-- The bytes a slot reads these operands from, `nn` low byte first (30_encoding.md R112, R116). -/
def Slot.bytesAt (op n : Byte) (nn : Word) : Slot → List Byte
  | .f1 _ => [op]
  | .f2 _ => [op, n]
  | .f3 _ => [op, loByte nn, hiByte nn]
  | .undefinedSlot => [op]

/-- A decoding read some operands, and consumed the bytes they are read from. -/
theorem decodeOperands_cases {op : Byte} {slot : Slot} {bytes rest : List Byte} {i : Instr}
    (h : decodeOperands op slot bytes = .ok i rest) :
    ∃ n nn, i = slot.instrAt op n nn ∧ op :: bytes = slot.bytesAt op n nn ++ rest := by
  cases slot with
  | undefinedSlot => cases h; exact ⟨0, 0, rfl, rfl⟩
  | f1 j => cases h; exact ⟨0, 0, rfl, rfl⟩
  | f2 withByte =>
    match bytes, h with
    | n :: tail, h => cases h; exact ⟨n, 0, rfl, rfl⟩
  | f3 withWord =>
    match bytes, h with
    | lo :: hi :: tail, h => cases h; exact ⟨0, mkWord hi lo, rfl, by simp [Slot.bytesAt]⟩

/-- The table and the bit fields agree on each of the 91 rows, for every operand. -/
theorem implementedRows_encode (n : Byte) (nn : Word) : ∀ row ∈ implementedRows,
    encode (row.2.instrAt (BitVec.ofNat 8 row.1) n nn) = row.2.bytesAt (BitVec.ofNat 8 row.1) n nn :=
  List.map_inj_left.1 rfl

theorem encode_slotOf (op n : Byte) (nn : Word) :
    encode ((slotOf op).instrAt op n nn) = (slotOf op).bytesAt op n nn := by
  rcases findSlot_cases implementedRows op.toNat with hrow | ⟨-, hslot⟩
  · simpa [slotOf] using implementedRows_encode n nn _ hrow
  · rw [slotOf, hslot]; rfl

/-- The bytes a decoding consumed are the encoding of the instruction it gave. -/
theorem eq_encode_of_decode {bytes rest : List Byte} {i : Instr} (h : decode bytes = .ok i rest) :
    bytes = encode i ++ rest := by
  match bytes, h with
  | op :: tail, h =>
    obtain ⟨n, nn, rfl, hbytes⟩ := decodeOperands_cases h
    rw [hbytes, encode_slotOf]

end Sys2Proof
end

/-! PROOFS. The step of an encoded instruction, and the bus transactions of a step. -/

section
namespace Sys2Proof.Machine

/-- A step of a core to which the Bus presents an instruction's encoding runs that instruction. -/
theorem step_of_encode {s : State} {i : Instr} (hi : i.wf = true) (hp : s.Presents (encode i)) :
    step s = exec i (s.fetched (encode i)) :=
  step_of_decode (by simpa using decode_encode i [] hi) hp

/-- The data transactions of a template: one read or one write, at the address it names, or none. -/
theorem run_trace {tm : Template} {s t : State} (h : tm.run s = .next t) : ∃ data : List Transaction,
    t.bus.trace = data ++ s.bus.trace ∧
    (∀ addr, tm.loadAddress s = some addr → ∃ v, data = [.rd addr v]) ∧
    (∀ addr, tm.storeAddress s = some addr → ∃ v, data = [.wr addr v]) ∧
    (tm.loadAddress s = none → tm.storeAddress s = none → data = []) := by
  rcases run_bus h with ⟨hl, hs, hb⟩ | ⟨addr, hl, hs, hb⟩ | ⟨addr, v, hl, hs, -, hb⟩
  · exact ⟨[], by simp [hb], by simp [hl], by simp [hs], by simp⟩
  · exact ⟨[.rd addr (s.bus.answer addr)], by simp [hb], by simp [hl], by simp [hs], by simp [hl]⟩
  · exact ⟨[.wr addr v], by simp [hb], by simp [hl], by simp [hs], by simp [hs]⟩

/-- Settles O30: the step fetched the bytes of the instruction it ran, and the template added its data transaction. -/
theorem transactionOrder : Obligations.TransactionOrder := by
  intro s t _ h
  obtain ⟨i, bytes, hd, ⟨-, hp⟩, he⟩ := step_inv h
  obtain rfl : bytes = encode i := by simpa using eq_encode_of_decode hd
  rw [exec_eq_run] at he
  obtain ⟨data, htrace, hdata⟩ := run_trace he
  exact ⟨i, data, decode_wf hd, hp, by simpa using htrace, hdata⟩

end Sys2Proof.Machine
end

/-! PROOFS. Memory and the Bus: the canonical form, answers by kind, words, stores to the next instruction. -/

section
namespace Sys2Proof.Machine

/-- Settles O38: the laws of a write, from address 0 on. -/
theorem memoryWrites : Obligations.MemoryWrites := by
  intro mem addr v hw haddr
  exact ⟨read_write_same addr v mem hw, fun x hx => read_write_ne hx v mem,
    wfFrom_write (Nat.zero_le _) haddr v mem hw⟩

/-- A canonical list that starts above an address does not read like one that lists it. -/
theorem not_read_alike_of_wfFrom_succ {k : Nat} {v : Byte} {rest mem : Memory} (hv : v ≠ Config.unlistedByte)
    (hw : Memory.wfFrom (k + 1) mem = true)
    (h : ∀ x, Memory.read ((k, v) :: rest) x = Memory.read mem x) : False := by
  have hk := h k
  rw [Memory.read, if_pos rfl, read_below (Nat.lt_succ_self k) mem hw] at hk
  exact hv hk

/-- Canonical lists that read alike are equal. -/
theorem eq_of_read_alike {lo lo' : Nat} {mem mem' : Memory} (hw : Memory.wfFrom lo mem = true)
    (hw' : Memory.wfFrom lo' mem' = true) (h : ∀ x, Memory.read mem x = Memory.read mem' x) : mem = mem' := by
  induction mem generalizing lo lo' mem' with
  | nil =>
    match mem' with
    | [] => rfl
    | (k, v) :: rest =>
      obtain ⟨-, -, hv, -⟩ := (wfFrom_cons ..).1 hw'
      exact (not_read_alike_of_wfFrom_succ hv (mem := []) rfl fun x => (h x).symm).elim
  | cons cell rest ih =>
    obtain ⟨k, v⟩ := cell
    obtain ⟨-, hk, hv, hrest⟩ := (wfFrom_cons ..).1 hw
    match mem' with
    | [] => exact (not_read_alike_of_wfFrom_succ hv (mem := []) rfl h).elim
    | (k', v') :: rest' =>
      obtain ⟨-, hk', hv', hrest'⟩ := (wfFrom_cons ..).1 hw'
      rcases Nat.lt_trichotomy k k' with hlt | rfl | hlt
      · have habove := (wfFrom_cons (k + 1) k' v' rest').2 ⟨hlt, hk', hv', hrest'⟩
        exact (not_read_alike_of_wfFrom_succ hv habove h).elim
      · obtain rfl : v = v' := by simpa [Memory.read] using h k
        suffices hsame : ∀ x, Memory.read rest x = Memory.read rest' x by rw [ih hrest hrest' hsame]
        intro x
        rcases Nat.lt_or_ge k x with hx | hx
        · simpa [Memory.read, Nat.ne_of_lt hx] using h x
        · rw [read_below (Nat.lt_succ_of_le hx) rest hrest, read_below (Nat.lt_succ_of_le hx) rest' hrest']
      · have habove := (wfFrom_cons (k' + 1) k v rest).2 ⟨hlt, hk, hv, hrest⟩
        exact (not_read_alike_of_wfFrom_succ hv' habove fun x => (h x).symm).elim

/-- Settles O39, by induction on the two lists. -/
theorem memoryCanonical : Obligations.MemoryCanonical :=
  fun _ _ hw hw' h => eq_of_read_alike hw hw' h

section
variable {bus : Bus} {addr : Word}

theorem answer_of_rom (h : bus.kindAt addr = .rom) : bus.answer addr = Memory.read bus.mem addr.toNat := by
  simp only [Bus.answer, h]

theorem answer_of_fixed {w : Byte} (h : bus.kindAt addr = .fixed w) : bus.answer addr = w := by
  simp only [Bus.answer, h]

theorem stored_of_ne_ram (v : Byte) (h : bus.kindAt addr ≠ .ram) : bus.stored addr v = bus.mem := by
  unfold Bus.stored
  split
  · exact absurd ‹_› h
  · rfl
  · rfl
  · rfl

/-- RAM keeps its answer when another address is written. -/
theorem answer_afterWrite_ne_of_ram {x : Word} (v : Byte) (hx : x ≠ addr) (h : bus.kindAt x = .ram) :
    (bus.afterWrite addr v).answer x = bus.answer x := by
  have hne : x.toNat ≠ addr.toNat := fun he => hx (BitVec.eq_of_toNat_eq he)
  rw [answer_of_ram (by simpa using h), answer_of_ram h, afterWrite_mem, read_stored_ne bus hne]

end

/-- Settles O40: what each kind answers, and which of them a write changes. -/
theorem busPolicy : Obligations.BusPolicy := by
  intro bus addr v hw
  refine ⟨fun hram => ⟨answer_afterWrite_of_ram v hram hw, fun x hx => answer_afterWrite_ne_of_ram v hx⟩,
    stored_of_ne_ram v, fun hrom => ?_, fun w hfixed => ⟨answer_of_fixed hfixed, answer_of_fixed (by simpa)⟩⟩
  rw [answer_of_rom (by simpa), answer_of_rom hrom, afterWrite_mem, stored_of_ne_ram v (by simp [hrom])]

/-- A word read is two byte reads, low byte first. -/
theorem readWord_eq (s : State) (addr : Word) : s.readWord addr =
    (mkWord ((s.bus.afterRead addr).answer (addr + 1)) (s.bus.answer addr),
      { s with bus := (s.bus.afterRead addr).afterRead (addr + 1) }) := rfl

/-- A word write is two byte writes, low byte first. -/
theorem writeWord_bus (s : State) (addr v : Word) :
    (s.writeWord addr v).bus = (s.bus.afterWrite addr (loByte v)).afterWrite (addr + 1) (hiByte v) := rfl

/-- Settles O41: over RAM the write of the high byte leaves the low one, and the read of the low byte leaves both. -/
theorem wordAccess : Obligations.WordAccess := by
  refine ⟨fun s addr lo hi hlo hhi => ?_, fun s addr v => rfl, fun s addr v hw hram hram' => ?_⟩
  · subst hlo hhi
    rw [readWord_eq, Bus.afterRead, Bus.afterRead, after_after]
    rfl
  · have hlo : (s.writeWord addr v).bus.answer addr = loByte v := by
      rw [writeWord_bus, answer_afterWrite_ne_of_ram _ (by simp) (by simpa), answer_afterWrite_of_ram _ hram hw]
    have hhi : (s.writeWord addr v).bus.answer (addr + 1) = hiByte v := by
      rw [writeWord_bus, answer_afterWrite_of_ram _ (by simpa) (wf_stored _ _ _ hw)]
    rw [readWord_eq, Bus.afterRead, answer_after_of_ram _ _ (by simpa [writeWord_bus]), hlo, hhi,
      mkWord_hiByte_loByte]

/-- Settles O42: the step's last transaction is the store, so RAM answers the stored byte to the next fetch. -/
theorem storeThenFetch : Obligations.StoreThenFetch := by
  intro s i addr v hi hp hw haddr hv hram
  obtain ⟨t, he, hbus, hpc, hphase, hmode⟩ := exec_of_store haddr hv
  have hanswer : t.bus.answer addr = v := by
    rw [hbus]
    exact answer_afterWrite_of_ram v (by simpa using hram) hw
  refine ⟨t, (step_of_encode hi hp).trans he, hanswer, hpc, fun hnext => ?_⟩
  obtain ⟨⟨hready, hrunning⟩, -⟩ := hp
  exact ⟨⟨hphase.trans hready, hmode.trans hrunning⟩, by rw [hpc, ← hnext]; exact hanswer, trivial⟩

end Sys2Proof.Machine
end

/-! PROOFS. The encoding: decoder and encoder invert each other, the Operation Table splits the 256 bytes, and every
template has its bit fields. -/

section
namespace Sys2Proof

/-- Settles O4: the decoder inverts the encoder. -/
theorem decodeEncode : Obligations.DecodeEncode := decode_encode

/-- Settles O5: every slot gives well-formed instructions and agrees with the encoder on the bytes it reads. -/
theorem encodeDecode : Obligations.EncodeDecode := fun _ _ _ h => ⟨decode_wf h, eq_encode_of_decode h⟩

/-- Settles O1, by running the decoder on each word. -/
theorem decodeSamples : Obligations.DecodeSamples := by
  unfold Obligations.DecodeSamples
  decide

theorem isImplemented_of_wfAt {slot : Slot} {n : Byte} {nn : Word} (h : slot.wfAt n nn = true) :
    slot.isImplemented = true := by
  cases slot with
  | undefinedSlot => cases h
  | f1 | f2 | f3 => rfl

theorem decode_of_undefinedSlot {op : Byte} (rest : List Byte) (h : slotOf op = .undefinedSlot) :
    decode (op :: rest) = .ok (.undefined op) rest := by
  rw [decode, h, decodeOperands]

/-- Settles O2: the implemented and the Undefined opcodes are the 256 byte values, each once, and a lookup tells them
apart. -/
theorem decoderTotal : Obligations.DecoderTotal := by
  obtain ⟨hrows, hundefined, -⟩ := List.nodup_append.1 (opcodes_perm_range.nodup_iff.2 List.nodup_range)
  refine ⟨fun op => ?_, hrows, rfl, hundefined, rfl, fun _ => decode_of_undefinedSlot⟩
  rcases slotOf_cases op with hslot | hwf
  · exact .inr hslot
  · have himplemented := isImplemented_of_wfAt (hwf 0 0)
    refine .inl ⟨himplemented, fun hop => ?_⟩
    rw [slotOf_of_mem_undefinedOpcodes hop] at himplemented
    cases himplemented

end Sys2Proof

namespace Sys2Proof.Machine

/-- The bytes of a template by the bit fields of its opcode, low operand byte first (30_encoding.md R112, R114 to R116,
R119). -/
def Template.EncodedBy (bytes : List Byte) : Template → Prop
  | .nop => bytes = [0x00]
  | .regReg dst src => ∃ ddd sss, dst.code = some ddd ∧ src.code = some sss ∧ bytes = [0b01#2 ++ ddd ++ sss]
  | .regImm dst n => ∃ ddd, dst.code = some ddd ∧ bytes = [0b00#2 ++ ddd ++ 0b110#3, n]
  | .regInd dst p =>
    (p = .hl ∧ ∃ ddd, dst.code = some ddd ∧ bytes = [0b01#2 ++ ddd ++ 0b110#3]) ∨
    (p = .bc ∧ dst = .a ∧ bytes = [0x0A]) ∨ (p = .de ∧ dst = .a ∧ bytes = [0x1A])
  | .indReg p src =>
    (p = .hl ∧ ∃ sss, src.code = some sss ∧ bytes = [0b01#2 ++ 0b110#3 ++ sss]) ∨
    (p = .bc ∧ src = .a ∧ bytes = [0x02]) ∨ (p = .de ∧ src = .a ∧ bytes = [0x12])
  | .indImm p n => p = .hl ∧ bytes = [0x36, n]
  | .regAbs dst nn => dst = .a ∧ bytes = [0xFA, loByte nn, hiByte nn]
  | .absReg nn src => src = .a ∧ bytes = [0xEA, loByte nn, hiByte nn]
  | .regPageReg dst off => dst = .a ∧ off = .c ∧ bytes = [0xF2]
  | .pageRegReg off src => off = .c ∧ src = .a ∧ bytes = [0xE2]
  | .regPageImm dst n => dst = .a ∧ bytes = [0xF0, n]
  | .pageImmReg n src => src = .a ∧ bytes = [0xE0, n]
  | .loadInc dst => dst = .a ∧ bytes = [0x2A]
  | .storeInc src => src = .a ∧ bytes = [0x22]
  | .loadDec dst => dst = .a ∧ bytes = [0x3A]
  | .storeDec src => src = .a ∧ bytes = [0x32]
  | .pairImm p nn => bytes = [0b00#2 ++ p.code ++ 0b0001#4, loByte nn, hiByte nn]
  | .spImm nn => bytes = [0x31, loByte nn, hiByte nn]
  | .spPair p => p = .hl ∧ bytes = [0xF9]
  | .undefinedSlot op => bytes = [op]

/-- The encoder gives every instruction the bytes of its template. The cases are grouped by the shape of their template's
clause; the last group is the 49 register copies. -/
theorem encode_encodedBy (i : Instr) : (template i).EncodedBy (encode i) := by
  cases i with
  | nop | ldBC_nn | ldDE_nn | ldHL_nn | ldSP_nn | undefined => rfl
  | ldB_n | ldC_n | ldD_n | ldE_n | ldH_n | ldL_n | ldA_n => exact ⟨_, rfl, rfl⟩
  | ldB_atHL | ldC_atHL | ldD_atHL | ldE_atHL | ldH_atHL | ldL_atHL | ldA_atHL => exact .inl ⟨rfl, _, rfl, rfl⟩
  | ldAtHL_B | ldAtHL_C | ldAtHL_D | ldAtHL_E | ldAtHL_H | ldAtHL_L | ldAtHL_A => exact .inl ⟨rfl, _, rfl, rfl⟩
  | ldA_atBC | ldAtBC_A => exact .inr (.inl ⟨rfl, rfl, rfl⟩)
  | ldA_atDE | ldAtDE_A => exact .inr (.inr ⟨rfl, rfl, rfl⟩)
  | ldA_atC | ldAtC_A => exact ⟨rfl, rfl, rfl⟩
  | ldAtHL_n | ldA_atNN | ldAtNN_A | ldhA_atN | ldhAtN_A => exact ⟨rfl, rfl⟩
  | ldA_atHLInc | ldAtHLInc_A | ldA_atHLDec | ldAtHLDec_A | ldSP_HL => exact ⟨rfl, rfl⟩
  | _ => exact ⟨_, _, rfl, rfl, rfl⟩

/-- Settles O3: each clause is the encoding of its template. -/
theorem encodingFields : Obligations.EncodingFields := by
  have h {i : Instr} {tm : Template} (htm : template i = tm) : tm.EncodedBy (encode i) :=
    htm ▸ encode_encodedBy i
  exact ⟨fun _ _ _ => h, fun _ _ _ => h, fun _ _ _ => h, fun _ _ _ => h, fun _ _ _ => h, fun _ _ _ => h,
    fun _ _ _ => h, fun _ _ _ => h, fun _ _ _ => h, fun _ _ _ => h, fun _ _ _ => h, fun _ _ => h, fun _ _ => h,
    fun _ _ => h, fun _ _ => h, fun _ _ _ => h, fun _ _ => h, fun _ _ => h, fun _ => h, fun _ _ => h⟩

end Sys2Proof.Machine
end

/-! PROOFS. Dispatch: the step that runs the presented bytes, no operation and an Undefined slot, the `hl` transfers. -/

section
namespace Sys2Proof.Machine

/-- Settles O6: the bytes the Bus presents are the ones fetched, and `exec` runs what they decode to. -/
theorem stepRunsDecoded : Obligations.StepRunsDecoded := fun _ _ _ => step_of_decode

/-- Settles O26: the opcode alone decodes, so one byte is fetched, and then IllegalOpcode is all that happens. -/
theorem undefinedDecode : Obligations.UndefinedDecode := by
  intro s op hready hanswer hslot
  have hstep : step s = raiseIllegalOpcode op (s.fetched [op]) :=
    step_of_decode (decode_of_undefinedSlot [] hslot) ⟨hready, hanswer, trivial⟩
  exact ⟨_, _, hstep, rfl, rfl, rfl, rfl, rfl, rfl, fun r => (reg_with_fault ..).trans (reg_fetched ..)⟩

/-- Completing does not touch a pair, so a pair can be stepped before or after it. -/
theorem finish_stepPair {c : Nat} {u t : State} (p : Pair) (h : finish c u = .next t) :
    finish c (u.setPair p (u.pair p + 1)) = .next (t.incPair p) ∧
      finish c (u.setPair p (u.pair p - 1)) = .next (t.decPair p) := by
  cases h
  cases p <;> exact ⟨rfl, rfl⟩

/-- Settles O22: the plain transfer leaves `hl` as it was, so the update of `hl` inside the compound one, from the old
value, is the update after it. -/
theorem hlDelegation : Obligations.HLDelegation := by
  intro s t
  refine ⟨fun h => ?_, fun h => ?_, ?_⟩
  · exact finish_stepPair (u := loadFrom .a (s.pair .hl) s) .hl h
  · exact finish_stepPair (u := storeTo (s.pair .hl) s.a s) .hl h
  · rintro (h | h | h | h) <;> cases h <;> exact ⟨rfl, rfl, rfl⟩

end Sys2Proof.Machine

namespace Sys2Proof
open Machine

/-- Settles O10: the operation only ends the step, and the step fetches its one byte before. -/
theorem noOperation : Obligations.NoOperation :=
  ⟨rfl, noOperation_eq, fun _ hp => (step_of_decode (i := .nop) rfl hp).trans (noOperation_eq _)⟩

end Sys2Proof
end

/-! PROOFS. Two runs: what the clock can influence, and that the answers of the Bus determine a step. -/

section
namespace Sys2Proof.Machine

/-- Completing adds the same to other counters. -/
theorem finish_with_clock {c : Nat} {u t : State} (x y : Nat) (h : finish c u = .next t) :
    finish c { u with m := u.m + x, t := u.t + y } = .next { t with m := t.m + x, t := t.t + y } := by
  cases h
  rw [finish_eq, Nat.add_right_comm u.m, Nat.add_right_comm u.t]
  rfl

/-- No instruction reads the clock, and each but an Undefined slot's ends by adding its cost. -/
theorem exec_with_clock {i : Instr} {s t : State} (x y : Nat) (h : exec i s = .next t) :
    exec i { s with m := s.m + x, t := s.t + y } = .next { t with m := t.m + x, t := t.t + y } := by
  cases i with
  | undefined => cases h; rfl
  | _ => exact finish_with_clock x y h

/-- Settles O32: the two steps fetch the same bytes and run the same instruction. -/
theorem clockUnread : Obligations.ClockUnread := by
  intro s t x y h
  obtain ⟨i, bytes, hd, hp, he⟩ := step_inv h
  exact (step_of_decode (s := { s with m := s.m + x, t := s.t + y }) hd hp).trans (exec_with_clock x y he)

/-- The bus after these transactions, given in program order, with its own answers to the reads. -/
def Bus.replay (bus : Bus) : List Transaction → Bus
  | [] => bus
  | .rd addr _ :: rest => (bus.afterRead addr).replay rest
  | .wr addr v :: rest => (bus.afterWrite addr v).replay rest

theorem replay_map (bus : Bus) (txs : List Transaction) : (bus.replay txs).map = bus.map := by
  induction txs generalizing bus with
  | nil => rfl
  | cons tx rest ih => cases tx <;> exact ih _

/-- On a bus that gives the answers the transactions carry, they are the ones logged. -/
theorem replay_trace {bus : Bus} {txs : List Transaction} (h : bus.agrees txs) :
    (bus.replay txs).trace = txs.reverse ++ bus.trace := by
  induction txs generalizing bus with
  | nil => rfl
  | cons tx rest ih =>
    rw [List.reverse_cons, List.append_assoc]
    cases tx with
    | rd addr v =>
      obtain ⟨rfl, hrest⟩ := h
      exact ih hrest
    | wr addr v => exact ih h

theorem replay_append (bus : Bus) (xs ys : List Transaction) : bus.replay (xs ++ ys) = (bus.replay xs).replay ys := by
  induction xs generalizing bus with
  | nil => rfl
  | cons tx rest ih => cases tx <;> exact ih _

theorem agrees_append (bus : Bus) (xs ys : List Transaction) :
    bus.agrees (xs ++ ys) ↔ bus.agrees xs ∧ (bus.replay xs).agrees ys := by
  induction xs generalizing bus with
  | nil => exact (and_iff_right trivial).symm
  | cons tx rest ih =>
    cases tx with
    | rd addr v => exact (and_congr_right fun _ => ih _).trans and_assoc.symm
    | wr addr v => exact ih _

/-- Presenting bytes is giving the answers their fetches carry. -/
theorem agrees_fetchReads (bus : Bus) (pc : Word) (bytes : List Byte) :
    bus.agrees (fetchReads pc bytes) ↔ bus.presents pc bytes := by
  induction bytes generalizing bus pc with
  | nil => rfl
  | cons v rest ih => exact and_congr_right fun _ => ih _ _

/-- Fetching presented bytes replays their fetches. -/
theorem replay_fetchReads {bus : Bus} {pc : Word} {bytes : List Byte} (h : bus.presents pc bytes) :
    bus.replay (fetchReads pc bytes) = bus.after (fetchReads pc bytes) := by
  induction bytes generalizing bus pc with
  | nil => rfl
  | cons v rest ih =>
    obtain ⟨rfl, hrest⟩ := h
    exact (ih hrest).trans (after_after ..)

/-- The answers to these transactions determine the operation that leads from `s` to `t` (40_dispatch.md R151): the Bus of
`s` gives them, and on every bus that does, the operation has the same outcome and issues the same transactions. -/
def DeterminedBy (op : State → Answer) (s t : State) (txs : List Transaction) : Prop :=
  s.bus.agrees txs ∧
    ∀ bus : Bus, bus.agrees txs → op { s with bus := bus } = .next { t with bus := bus.replay txs }

/-- The data transaction of a template, at the address and with the byte it names. -/
def Template.data (s : State) (tm : Template) : List Transaction :=
  match tm.loadAddress s, tm.storeAddress s, tm.storedByte s with
  | some addr, _, _ => [.rd addr (s.bus.answer addr)]
  | none, some addr, some v => [.wr addr v]
  | none, _, _ => []

section
variable {s t : State}

theorem finish_with_bus {c : Nat} (bus : Bus) (h : finish c s = .next t) :
    finish c { s with bus := bus } = .next { t with bus := bus } := by
  cases h
  rfl

theorem loadFrom_with_bus {bus : Bus} {addr : Word} (dst : Reg8) (h : bus.answer addr = s.bus.answer addr) :
    loadFrom dst addr { s with bus := bus } = { loadFrom dst addr s with bus := bus.afterRead addr } := by
  rw [loadFrom_eq, loadFrom_eq, ← h]
  cases dst <;> rfl

/-- A load over another bus that gives the same answer at its address. -/
theorem finish_loadFrom_with_bus {bus : Bus} {addr : Word} {dst : Reg8} {c : Nat}
    (hb : bus.answer addr = s.bus.answer addr) (h : finish c (loadFrom dst addr s) = .next t) :
    finish c (loadFrom dst addr { s with bus := bus }) = .next { t with bus := bus.afterRead addr } := by
  rw [loadFrom_with_bus dst hb]
  exact finish_with_bus _ h

/-- The same where the load is followed by an update of a pair. -/
theorem finish_loadFrom_setPair_with_bus {bus : Bus} {addr w : Word} {dst : Reg8} {c : Nat} {p : Pair}
    (hb : bus.answer addr = s.bus.answer addr) (h : finish c ((loadFrom dst addr s).setPair p w) = .next t) :
    finish c ((loadFrom dst addr { s with bus := bus }).setPair p w) = .next { t with bus := bus.afterRead addr } := by
  rw [loadFrom_with_bus dst hb]
  cases h
  cases p <;> rfl

/-- The data transaction determines the operation: a load takes the byte answered, the others read nothing. -/
theorem exec_determined {i : Instr} (h : exec i s = .next t) :
    DeterminedBy (exec i) s t ((template i).data s) := by
  cases i with
  | ldB_atHL | ldC_atHL | ldD_atHL | ldE_atHL | ldH_atHL | ldL_atHL | ldA_atHL | ldA_atBC | ldA_atDE | ldhA_atN
  | ldA_atC | ldA_atNN =>
    exact ⟨⟨rfl, trivial⟩, fun _ ⟨hb, _⟩ => finish_loadFrom_with_bus hb h⟩
  | ldA_atHLInc | ldA_atHLDec =>
    exact ⟨⟨rfl, trivial⟩, fun _ ⟨hb, _⟩ => finish_loadFrom_setPair_with_bus hb h⟩
  | _ => cases h; exact ⟨trivial, fun _ _ => rfl⟩

end

/-- The transactions of a step, the fetches and then the data transaction of the instruction, determine it. -/
theorem step_determined {s t : State} (h : step s = .next t) : ∃ txs, DeterminedBy step s t txs := by
  obtain ⟨i, bytes, hd, ⟨hready, hp⟩, he⟩ := step_inv h
  obtain ⟨hdata, hexec⟩ := exec_determined he
  refine ⟨fetchReads s.pc bytes ++ (template i).data (s.fetched bytes), ?_, fun bus hagrees => ?_⟩
  · exact (agrees_append ..).2 ⟨(agrees_fetchReads ..).2 hp, replay_fetchReads hp ▸ hdata⟩
  · obtain ⟨hfetch, hrest⟩ := (agrees_append ..).1 hagrees
    have hp' := (agrees_fetchReads ..).1 hfetch
    rw [replay_fetchReads hp'] at hrest
    rw [replay_append, replay_fetchReads hp']
    exact (step_of_decode (s := { s with bus := bus }) hd ⟨hready, hp'⟩).trans (hexec _ hrest)

/-- Settles O34: the transactions are those of the step, and the other bus replays them. -/
theorem determinedByAnswers : Obligations.DeterminedByAnswers := by
  intro s t bus txs h htrace hagrees
  obtain ⟨txs', hown, hstep⟩ := step_determined h
  have hbus : t.bus = s.bus.replay txs' := congrArg State.bus (Host.Outcome.next.inj (h.symm.trans (hstep _ hown)))
  obtain rfl : txs' = txs := by simpa [hbus, replay_trace hown] using htrace
  exact ⟨_, hstep bus hagrees, replay_trace hagrees, replay_map ..⟩

end Sys2Proof.Machine
end

/-! PROOFS. Placing: the Bus answers the bytes that were placed, so the next step runs them. -/

section
namespace Sys2Proof.Machine

/-- The memory answers at this address, and holds this byte there. -/
def Bus.Holds (bus : Bus) (addr : Word) (v : Byte) : Prop :=
  bus.backed addr = true ∧ Memory.read bus.mem addr.toNat = v

section
variable {bus : Bus} {x addr : Word} {v w : Byte}

theorem backed_iff : bus.backed addr = true ↔ bus.kindAt addr = .ram ∨ bus.kindAt addr = .rom := by
  unfold Bus.backed
  cases bus.kindAt addr <;> simp

theorem answer_after_of_holds (txs : List Transaction) (h : bus.Holds addr v) : (bus.after txs).answer addr = v := by
  obtain ⟨hbacked, hread⟩ := h
  rcases backed_iff.1 hbacked with hram | hrom
  · exact (answer_of_ram (bus := bus.after txs) hram).trans hread
  · exact (answer_of_rom (bus := bus.after txs) hrom).trans hread

theorem kindAt_place : (bus.place addr w).kindAt x =
    if bus.backed addr = false ∧ x = addr then .ram else bus.kindAt x := by
  have hcovers : (Region.mk addr.toNat 1 .ram).covers x = true ↔ x = addr := by
    rw [← BitVec.toNat_inj]
    simp only [Region.covers, Bool.and_eq_true, decide_eq_true_eq]
    omega
  unfold Bus.kindAt Bus.place
  cases hb : bus.backed addr with
  | true => simp
  | false => simp [kindIn, hcovers]

theorem backed_place_same : (bus.place addr w).backed addr = true := by
  rw [backed_iff, kindAt_place]
  cases hb : bus.backed addr
  · simp
  · simpa using backed_iff.1 hb

theorem backed_place (h : bus.backed x = true) : (bus.place addr w).backed x = true := by
  rw [backed_iff] at h ⊢
  rw [kindAt_place]
  split
  · exact .inl rfl
  · exact h

theorem holds_place (hw : Memory.wf bus.mem = true) : (bus.place addr v).Holds addr v :=
  ⟨backed_place_same, read_write_same _ _ _ hw⟩

theorem holds_place_ne (hx : x ≠ addr) (h : bus.Holds x v) : (bus.place addr w).Holds x v := by
  obtain ⟨hbacked, hread⟩ := h
  exact ⟨backed_place hbacked, (read_write_ne (fun he => hx (BitVec.eq_of_toNat_eq he)) w _).trans hread⟩

/-- Bytes placed elsewhere leave a byte alone: those from `addr` on, of which the one at `x` would be `x - addr`. -/
theorem holds_placeAll (bytes : List Byte) (hx : bytes.length ≤ (x - addr).toNat) (h : bus.Holds x v) :
    (bus.placeAll addr bytes).Holds x v := by
  induction bytes generalizing bus addr with
  | nil => exact h
  | cons w rest ih =>
    rw [List.length_cons] at hx
    exact ih (by bv_omega) (holds_place_ne (by bv_omega) h)

end

/-- The Bus presents the bytes that were placed, whatever has been logged since; the address space holds them all. -/
theorem presents_placeAll (bytes : List Byte) (txs : List Transaction) {bus : Bus} {addr : Word}
    (hw : Memory.wf bus.mem = true) (hlen : bytes.length ≤ 2 ^ 16) :
    ((bus.placeAll addr bytes).after txs).presents addr bytes := by
  induction bytes generalizing bus addr txs with
  | nil => trivial
  | cons v rest ih =>
    rw [List.length_cons] at hlen
    have hheld : ((bus.place addr v).placeAll (addr + 1) rest).Holds addr v :=
      holds_placeAll rest (by bv_omega) (holds_place hw)
    rw [Bus.placeAll, presents_cons, after_after]
    exact ⟨answer_after_of_holds txs hheld, ih _ (wf_place bus addr v hw) (by omega)⟩

theorem presents_of_append {bus : Bus} {pc : Word} {xs ys : List Byte} (h : bus.presents pc (xs ++ ys)) :
    bus.presents pc xs := by
  induction xs generalizing bus pc with
  | nil => trivial
  | cons v rest ih =>
    obtain ⟨hv, hrest⟩ := h
    exact ⟨hv, ih hrest⟩

/-- The word of a decoded instruction begins with its encoding. -/
theorem encode_of_decodeTableWord {nbits w : Nat} {i : Instr} (h : decodeTableWord nbits w = some i) :
    i.wf = true ∧ ∃ rest, tableWordBytes nbits w = encode i ++ rest := by
  unfold decodeTableWord at h
  cases hd : decode (tableWordBytes nbits w) with
  | rejected => rw [hd] at h; cases h
  | ok j rest =>
    rw [hd] at h
    cases h
    exact ⟨decode_wf hd, rest, eq_encode_of_decode hd⟩

/-- Settles O50: the Bus presents the placed word, which begins with the instruction's encoding. -/
theorem placedInstructionRuns : Obligations.PlacedInstructionRuns := by
  intro s nbits w i hw h
  obtain ⟨hi, rest, hbytes⟩ := encode_of_decodeTableWord h
  have hplaced : (s.withFetchWord nbits w).bus.presents s.pc (tableWordBytes nbits w) :=
    presents_placeAll (tableWordBytes nbits w) [] hw (by simp [tableWordBytes])
  rw [hbytes] at hplaced
  refine ⟨_, step_of_encode hi ⟨⟨rfl, rfl⟩, presents_of_append hplaced⟩, ?_, fun r => ?_, rfl, rfl, rfl, rfl⟩
  · rw [fetched_pc, BitVec.toNat_add, BitVec.toNat_ofNat, Nat.add_mod_mod]
    rfl
  · rw [reg_fetched]
    cases r <;> rfl

end Sys2Proof.Machine
end

/-! PROOFS. The 8-bit register loads: the copies and the immediate loads. -/

section
namespace Sys2Proof.Machine

/-- Only an Undefined slot's term can fail to be well-formed. -/
theorem wf_of_template_ne {i : Instr} (h : ∀ op, template i ≠ .undefinedSlot op) : i.wf = true := by
  cases i with
  | undefined op => exact absurd rfl (h op)
  | _ => rfl

/-- A step of a core to which the Bus presents the bytes of an implemented instruction runs its template. -/
theorem step_of_template {s : State} {i : Instr} {tm : Template} {bytes : List Byte} (htm : template i = tm)
    (hne : ∀ op, tm ≠ .undefinedSlot op) (henc : encode i = bytes) (hp : s.Presents bytes) :
    step s = tm.run (s.fetched bytes) := by
  subst htm henc
  rw [step_of_encode (wf_of_template_ne hne) hp, exec_eq_run]

/-- Fetching moves `pc` and logs on the bus, and a register write does neither, so it can be done before. -/
theorem setReg_fetched (s : State) (bytes : List Byte) (r : Reg8) (v : Byte) : (s.fetched bytes).setReg r v =
    { s.setReg r v with pc := (s.fetched bytes).pc, bus := (s.fetched bytes).bus } := by
  cases r <;> rfl

end Sys2Proof.Machine

namespace Sys2Proof
open Machine

/-- Settles O11: the instruction is its template's copy, and fetching its one byte leaves the source register alone. -/
theorem ldRegReg : Obligations.LdRegReg := by
  refine fun i dst src htm => ⟨fun s => ?_, fun s op henc hp => ?_⟩
  · rw [exec_eq_run, htm]
    exact ldRegReg_eq dst src s
  · rw [step_of_template htm nofun henc hp, Template.run, ldRegReg_eq, reg_fetched, setReg_fetched]
    rfl

/-- Settles O12: the instruction is its template's load, and fetching its two bytes leaves the registers alone. -/
theorem ldRegImm : Obligations.LdRegImm := by
  refine fun i dst n htm => ⟨fun s => ?_, fun s op henc hp => ?_⟩
  · rw [exec_eq_run, htm]
    exact ldRegImm_eq dst n s
  · rw [step_of_template htm nofun henc hp, Template.run, ldRegImm_eq, setReg_fetched]
    rfl

/-- Settles O13: the immediate load to `a`, whose opcode the encoder gives as 0x3E. -/
theorem ldAImm : Obligations.LdAImm := by
  intro n
  obtain ⟨hexec, hstep⟩ := ldRegImm (.ldA_n n) .a n rfl
  exact ⟨rfl, hexec, fun s => hstep s 0x3E rfl⟩

end Sys2Proof
end

/-! PROOFS. The 8-bit loads and stores through an address. -/

section
namespace Sys2Proof.Machine

/-- A load after the fetches: it takes the byte the Bus answers then, and its read follows theirs. -/
theorem finish_loadFrom_fetched {s : State} {bytes : List Byte} {addr : Word} {v : Byte} (c : Nat) (dst : Reg8)
    (hv : (s.bus.after (fetchReads s.pc bytes)).answer addr = v) : finish c (loadFrom dst addr (s.fetched bytes)) =
    .next { s.setReg dst v with
      pc := s.pc + BitVec.ofNat 16 bytes.length, m := s.m + c, t := s.t + 4 * c,
      bus := s.bus.after (fetchReads s.pc bytes ++ [.rd addr v]), result := some (.cost c) } := by
  rw [loadFrom_eq, fetched_bus, Bus.afterRead, hv, after_after, finish_eq]
  cases dst <;> rfl

/-- A store after the fetches: they leave memory and its map alone, and its write follows them. -/
theorem finish_storeTo_fetched (c : Nat) (addr : Word) (v : Byte) (s : State) (bytes : List Byte) :
    finish c (storeTo addr v (s.fetched bytes)) =
    .next { s with
      pc := s.pc + BitVec.ofNat 16 bytes.length, m := s.m + c, t := s.t + 4 * c,
      bus := { mem := s.bus.stored addr v, map := s.bus.map,
               trace := .wr addr v :: ((fetchReads s.pc bytes).reverse ++ s.bus.trace) },
      result := some (.cost c) } := rfl

/-- The fetches of a three-byte instruction, the address of the third counted from the first. -/
theorem fetchReads_three (pc : Word) (op lo hi : Byte) :
    fetchReads pc [op, lo, hi] = [.rd pc op, .rd (pc + 1) lo, .rd (pc + 2) hi] := by
  have h : pc + 1 + 1 = pc + 2 := BitVec.add_assoc ..
  rw [fetchReads, fetchReads, fetchReads, fetchReads, h]

/-- The fixed page ends at 0xFFFF, so adding the offset does not wrap (30_encoding.md R116). -/
theorem pageAddress_toNat (offset : Byte) : (pageAddress offset).toNat = 0xFF00 + offset.toNat := by
  have h := offset.isLt
  rw [pageAddress, zext16, Config.fixedPageBase]
  bv_omega

end Sys2Proof.Machine

namespace Sys2Proof
open Machine

/-- Settles O14: the pair is read before the destination is written, and fetching the opcode leaves it alone. -/
theorem ldRegInd : Obligations.LdRegInd := by
  refine fun i dst p htm => ⟨fun s => ?_, fun s op v henc hp hv => ?_⟩
  · rw [exec_eq_run, htm]
    exact ldRegInd_eq dst p s
  · rw [step_of_template htm nofun henc hp, Template.run, Machine.ldRegInd, pair_fetched]
    exact finish_loadFrom_fetched 2 dst hv

/-- Settles O15: fetching the opcode leaves the pair and the source alone. -/
theorem ldIndReg : Obligations.LdIndReg := by
  refine fun i p src htm => ⟨fun s => ?_, fun s op henc hp => ?_⟩
  · rw [exec_eq_run, htm]
    exact ldIndReg_eq p src s
  · rw [step_of_template htm nofun henc hp, Template.run, Machine.ldIndReg, pair_fetched, reg_fetched]
    exact finish_storeTo_fetched 2 (s.pair p) (s.reg src) s [op]

/-- Settles O16: the operand is among the fetched bytes, so its read precedes the write. -/
theorem ldIndImm : Obligations.LdIndImm := by
  refine fun i p n htm => ⟨fun s => ?_, fun s op henc hp => ?_⟩
  · rw [exec_eq_run, htm]
    exact ldIndImm_eq p n s
  · rw [step_of_template htm nofun henc hp, Template.run, Machine.ldIndImm, pair_fetched]
    exact finish_storeTo_fetched 3 (s.pair p) n s [op, n]

/-- Settles O17: the decoder puts the two operand bytes together, and the transfer uses them as its address. -/
theorem ldAbsolute : Obligations.LdAbsolute := by
  refine ⟨fun nn s => ⟨ldRegAbs_eq .a nn s, ldAbsReg_eq nn .a s⟩, fun s lo hi v hp hv => ?_, fun s lo hi hp => ?_⟩
  · rw [← fetchReads_three] at hv
    have hload := finish_loadFrom_fetched 4 .a hv
    rw [fetchReads_three] at hload
    exact (step_of_decode (i := .ldA_atNN (mkWord hi lo)) rfl hp).trans hload
  · have hstore := finish_storeTo_fetched 4 (mkWord hi lo) s.a s [0xEA, lo, hi]
    rw [fetchReads_three] at hstore
    exact (step_of_decode (i := .ldAtNN_A (mkWord hi lo)) rfl hp).trans hstore

/-- Settles O18: the address is formed from `c`, which fetching the opcode leaves alone. -/
theorem ldPageReg : Obligations.LdPageReg :=
  ⟨fun s => ⟨pageAddress_toNat s.c, ldRegPageReg_eq .a .c s, ldPageRegReg_eq .c .a s⟩,
    fun _ _ hp hv => (step_of_decode (i := .ldA_atC) rfl hp).trans (finish_loadFrom_fetched 2 .a hv),
    fun s hp => (step_of_decode (i := .ldAtC_A) rfl hp).trans
      (finish_storeTo_fetched 2 (pageAddress s.c) s.a s [0xE2])⟩

/-- Settles O19: the address is formed from the fetched operand. -/
theorem ldPageImm : Obligations.LdPageImm :=
  ⟨fun n s => ⟨pageAddress_toNat n, ldRegPageImm_eq .a n s, ldPageImmReg_eq n .a s⟩,
    fun _ n _ hp hv => (step_of_decode (i := .ldhA_atN n) rfl hp).trans (finish_loadFrom_fetched 3 .a hv),
    fun s n hp => (step_of_decode (i := .ldhAtN_A n) rfl hp).trans
      (finish_storeTo_fetched 3 (pageAddress n) s.a s [0xE0, n])⟩

/-- Settles O20: by delegation each form is the plain load followed by its step of `hl`, which the load left alone. -/
theorem ldHLStepLoads : Obligations.LdHLStepLoads := by
  refine ⟨fun s => ?_, fun s v hp hv => ?_, fun s v hp hv => ?_⟩
  · obtain ⟨hdelegate, -⟩ := hlDelegation s _
    exact hdelegate (ldRegInd_eq .a .hl s)
  · obtain ⟨hdelegate, -⟩ := hlDelegation (s.fetched [0x2A]) _
    obtain ⟨hinc, -⟩ := hdelegate (finish_loadFrom_fetched 2 .a hv)
    exact (step_of_decode (i := .ldA_atHLInc) rfl hp).trans hinc
  · obtain ⟨hdelegate, -⟩ := hlDelegation (s.fetched [0x3A]) _
    obtain ⟨-, hdec⟩ := hdelegate (finish_loadFrom_fetched 2 .a hv)
    exact (step_of_decode (i := .ldA_atHLDec) rfl hp).trans hdec

/-- Settles O21: by delegation each form is the plain store followed by its step of `hl`, which the store left alone. -/
theorem ldHLStepStores : Obligations.LdHLStepStores := by
  refine ⟨fun s => ?_, fun s hp => ?_, fun s hp => ?_⟩
  · obtain ⟨-, hdelegate, -⟩ := hlDelegation s _
    exact hdelegate (ldIndReg_eq .hl .a s)
  · obtain ⟨-, hdelegate, -⟩ := hlDelegation (s.fetched [0x22]) _
    obtain ⟨hinc, -⟩ := hdelegate (finish_storeTo_fetched 2 (s.pair .hl) s.a s [0x22])
    exact (step_of_decode (i := .ldAtHLInc_A) rfl hp).trans hinc
  · obtain ⟨-, hdelegate, -⟩ := hlDelegation (s.fetched [0x32]) _
    obtain ⟨-, hdec⟩ := hdelegate (finish_storeTo_fetched 2 (s.pair .hl) s.a s [0x32])
    exact (step_of_decode (i := .ldAtHLDec_A) rfl hp).trans hdec

end Sys2Proof
end

/-! PROOFS. The 16-bit loads. -/

section
namespace Sys2Proof.Machine

/-- Fetching moves `pc` and logs on the bus, and a pair write does neither, so it can be done before. -/
theorem setPair_fetched (s : State) (bytes : List Byte) (p : Pair) (w : Word) : (s.fetched bytes).setPair p w =
    { s.setPair p w with pc := (s.fetched bytes).pc, bus := (s.fetched bytes).bus } := by
  cases p <;> rfl

/-- A pair load encodes its immediate low byte first (30_encoding.md R116). -/
theorem encode_pairImm_operands {i : Instr} {p : Pair} {nn : Word} {op lo hi : Byte} (htm : template i = .pairImm p nn)
    (henc : encode i = [op, lo, hi]) : lo = loByte nn ∧ hi = hiByte nn := by
  have h : (Template.pairImm p nn).EncodedBy [op, lo, hi] := htm ▸ henc ▸ encode_encodedBy i
  cases h
  exact ⟨rfl, rfl⟩

end Sys2Proof.Machine

namespace Sys2Proof
open Machine

/-- Settles O23: the operand bytes are those of the immediate, and fetching them leaves the registers alone. -/
theorem ldPairImm : Obligations.LdPairImm := by
  refine fun i p nn htm => ⟨fun s => ?_, fun s op lo hi henc hp => ?_⟩
  · rw [exec_eq_run, htm]
    exact ldPairImm_eq p nn s
  · obtain ⟨rfl, rfl⟩ := encode_pairImm_operands htm henc
    rw [step_of_template htm nofun henc hp, Template.run, ldPairImm_eq, setPair_fetched, fetched_bus, fetchReads_three]
    rfl

/-- Settles O24: `sp` takes the word the decoder puts together, or the pair's value, which fetching the opcode leaves
alone; the only transactions are the fetches. -/
theorem ldStackPointer : Obligations.LdStackPointer := by
  refine ⟨fun nn s => ⟨ldSpImm_eq nn s, ldSpPair_eq .hl s⟩, fun s lo hi hp => ?_, fun s hp => ?_⟩
  · rw [← fetchReads_three]
    exact (step_of_decode (i := .ldSP_nn (mkWord hi lo)) rfl hp).trans (ldSpImm_eq _ _)
  · exact (step_of_decode (i := .ldSP_HL) rfl hp).trans (ldSpPair_eq .hl _)

end Sys2Proof
end

/-! PROOFS. Exceptions and the host's actions: what a step returns and records, runs of any length, reset and snapshot. -/

section
namespace Sys2Proof.Machine

/-- An Undefined slot, its one byte fetched, takes IllegalOpcode at the address its opcode was fetched from. -/
theorem exec_undefined_fetched (op : Byte) (s : State) : exec (.undefined op) (s.fetched [op]) =
    .next { s.fetched [op] with
      faultRecord := ⟨op, s.pc⟩ :: s.faultRecord, result := some (.illegalOpcode ⟨op, s.pc⟩) } := by
  have hpc0 : (s.fetched [op]).pc - 1 = s.pc := BitVec.add_sub_cancel ..
  exact ((raiseIllegalOpcode_eq_next ..).2 rfl).trans (by rw [hpc0]; rfl)

/-- Settles O25: the opcode alone decodes, so the step fetches one byte, and then IllegalOpcode is all that happens. -/
theorem undefinedSlot : Obligations.UndefinedSlot := by
  refine ⟨fun _ _ => rfl, fun op s hop hp => ?_, by decide, by decide, by decide⟩
  have hd := decode_of_undefinedSlot [] (slotOf_of_mem_undefinedOpcodes hop)
  exact (step_of_decode hd hp).trans (exec_undefined_fetched op s)

theorem template_cost_bounds {tm : Template} {c : Nat} (h : tm.cost = some c) : 1 ≤ c ∧ c ≤ 4 := by
  cases tm <;> cases h <;> decide

/-- The two results of a step: it completes, adding its cost to the clock and nothing to the record, or it takes
IllegalOpcode at its own opcode, an Undefined one, and adds that to the record and nothing to the clock. -/
theorem step_results {s t : State} (h : step s = .next t) :
    (∃ c, 1 ≤ c ∧ c ≤ 4 ∧ t.m = s.m + c ∧ t.t = s.t + 4 * c ∧ t.result = some (.cost c) ∧
      t.faultRecord = s.faultRecord) ∨
    (∃ op, op = s.bus.answer s.pc ∧ op.toNat ∈ undefinedOpcodes ∧ t.m = s.m ∧ t.t = s.t ∧
      t.result = some (.illegalOpcode ⟨op, s.pc⟩) ∧ t.faultRecord = ⟨op, s.pc⟩ :: s.faultRecord) := by
  obtain ⟨i, bytes, hd, ⟨-, hp⟩, he⟩ := step_inv h
  rcases run_clock (exec_eq_run i _ ▸ he) with ⟨c, hc, hm, ht, hres, hrec⟩ | ⟨op, htm, -⟩
  · obtain ⟨hpos, hle⟩ := template_cost_bounds hc
    exact .inl ⟨c, hpos, hle, hm, ht, hres, hrec⟩
  · obtain rfl := eq_undefined_of_template htm
    obtain rfl : bytes = [op] := by simpa [encode] using eq_encode_of_decode hd
    obtain ⟨hop, -⟩ := hp
    cases (exec_undefined_fetched op s).symm.trans he
    exact .inr ⟨op, hop.symm, (wf_undefined_iff op).1 (decode_wf hd), rfl, rfl, rfl, rfl⟩

/-- Settles O45: a completed step records nothing, and IllegalOpcode is recorded as it is returned. -/
theorem faultRecordSticky : Obligations.FaultRecordSticky := by
  intro s t h
  rcases step_results h with ⟨c, -, -, -, -, hres, hrec⟩ | ⟨op, hop, hundefined, -, -, hres, hrec⟩
  · exact .inr ⟨c, hres, hrec⟩
  · exact .inl ⟨_, hres, hrec, rfl, hop, hundefined⟩

theorem step_keeps_ready {s t : State} (h : step s = .next t) : t.Ready := by
  obtain ⟨i, bytes, -, ⟨⟨hphase, hmode⟩, -⟩, he⟩ := step_inv h
  obtain ⟨-, hmode', hphase'⟩ := exec_control he
  exact ⟨hphase'.trans hphase, hmode'.trans hmode⟩

theorem step_answers {s : State} (h : s.Ready) : ∃ t, step s = .next t :=
  step_of_ready h ▸ exec_answers ..

/-- Settles O8: every fetched instruction answers a next state, with one of the two results. -/
theorem stepAlwaysAnswers : Obligations.StepAlwaysAnswers := by
  intro s hready
  obtain ⟨t, ht⟩ := step_answers hready
  refine ⟨t, ht, step_keeps_ready ht, ?_⟩
  rcases step_results ht with ⟨c, -, -, -, -, hres, -⟩ | ⟨op, -, -, -, -, hres, -⟩
  · exact .inl ⟨c, hres⟩
  · exact .inr ⟨_, hres⟩

/-- What `k` steps can do to the clock and the fault record: `m` grows by at most four a step and `t` by four times as
much, the record keeps what it had, and each step either adds to the record or takes a cycle at least. -/
def Advances (k : Nat) (s t : State) : Prop :=
  ∃ new : List IllegalOpcode, s.m ≤ t.m ∧ t.m ≤ s.m + 4 * k ∧ t.t + 4 * s.m = s.t + 4 * t.m ∧
    t.faultRecord = new ++ s.faultRecord ∧ new.length ≤ k ∧ s.m + k ≤ t.m + new.length

theorem advances_zero (s : State) : Advances 0 s s := ⟨[], by simp⟩

theorem advances_of_step {s t : State} (h : step s = .next t) : Advances 1 s t := by
  rcases step_results h with ⟨c, hpos, hle, hm, ht, -, hrec⟩ | ⟨op, -, -, hm, ht, -, hrec⟩
  · exact ⟨[], by omega, by omega, by omega, hrec, by simp, by simpa [hm] using hpos⟩
  · exact ⟨[⟨op, s.pc⟩], by omega, by omega, by omega, hrec, by simp, by simp [hm]⟩

theorem Advances.trans {j k : Nat} {s u t : State} (h : Advances j s u) (h' : Advances k u t) :
    Advances (j + k) s t := by
  obtain ⟨new, hm, hle, ht, hrec, hlen, hcycles⟩ := h
  obtain ⟨new', hm', hle', ht', hrec', hlen', hcycles'⟩ := h'
  have hlength : (new' ++ new).length = new'.length + new.length := List.length_append
  exact ⟨new' ++ new, by omega, by omega, by omega, by rw [hrec', hrec, List.append_assoc], by omega, by omega⟩

/-- A core that accepts steps runs any number of them and accepts the next. -/
theorem runSteps_answers (k : Nat) {s : State} (h : s.Ready) :
    ∃ t, runSteps k s = .next t ∧ t.Ready ∧ Advances k s t := by
  induction k generalizing s with
  | zero => exact ⟨s, rfl, h, advances_zero s⟩
  | succ k ih =>
    obtain ⟨u, hu⟩ := step_answers h
    obtain ⟨t, hrun, hready, hadvances⟩ := ih (step_keeps_ready hu)
    exact ⟨t, (runSteps_succ k hu).trans hrun, hready, Nat.add_comm 1 k ▸ (advances_of_step hu).trans hadvances⟩

/-- Settles O46: each step advances the clock or the record within its bounds, and the bounds add up along the run. -/
theorem runNeverStops : Obligations.RunNeverStops := by
  intro k s hready
  obtain ⟨t, hrun, hready', new, hadvances⟩ := runSteps_answers k hready
  exact ⟨t, new, hrun, hready', hadvances⟩

section
variable {s : State}

theorem snapshot_of_ready (h : s.phase = .ready) :
    snapshot s = .ok { a := s.a, b := s.b, c := s.c, d := s.d, e := s.e, h := s.h, l := s.l, f := s.f, pc := s.pc,
                       sp := s.sp, m := s.m, t := s.t } := by
  simp only [snapshot, h]

theorem snapshot_of_constructed (h : s.phase = .constructed) : snapshot s = .error .registerReadBeforeReset := by
  simp only [snapshot, h]

theorem hostAct_snapshot_of_ready (h : s.phase = .ready) : hostAct .snapshot s = .next s := by
  simp only [hostAct, snapshot_of_ready h]

theorem hostAct_snapshot_of_constructed (h : s.phase = .constructed) :
    hostAct .snapshot s = .fault .registerReadBeforeReset := by
  simp only [hostAct, snapshot_of_constructed h]

theorem hostReset_keeps_inv (h : s.Inv) : (hostReset s).Inv := ⟨⟨rfl, rfl⟩, rfl, h.memory, h.faults⟩

theorem withFetchWord_keeps_inv (nbits w : Nat) (h : s.Inv) : (s.withFetchWord nbits w).Inv :=
  ⟨⟨rfl, rfl⟩, h.ticks, wf_placeAll _ _ _ h.memory, h.faults⟩

end

/-- Settles O44: the snapshot by its two phases; reset keeps the bus and the record and nothing else. -/
theorem hostActions : Obligations.HostActions :=
  ⟨fun _ => ⟨rfl, rfl, rfl⟩, fun _ => rfl, fun _ h => ⟨hostAct_snapshot_of_ready h, snapshot_of_ready h⟩,
    fun _ h => ⟨hostAct_snapshot_of_constructed h, snapshot_of_constructed h⟩, rfl⟩

/-- Settles O49: reset and placing keep each part of the invariant, a step keeps it by O47, and a snapshot of a core that
has been reset has no effect. -/
theorem hostKeepsInv : Obligations.HostKeepsInv := by
  refine ⟨fun action s t hs h => ?_, fun s => withFetchWord_keeps_inv⟩
  cases action with
  | reset => cases h; exact hostReset_keeps_inv hs
  | step => exact stepKeepsInv s t hs h
  | snapshot =>
    obtain ⟨hphase, -⟩ := hs.ready
    cases (hostAct_snapshot_of_ready hphase).symm.trans h
    exact hs

end Sys2Proof.Machine
end

/-! PROOFS. The clock of a step, and the state after reset. -/

section
namespace Sys2Proof.Machine

/-- Settles O28: the step runs the instruction's template, which either completes at its cost or is an Undefined slot's,
and the core stays ready for a snapshot. -/
theorem clockStep : Obligations.ClockStep := by
  intro s i hi hp
  obtain ⟨t, he⟩ := exec_answers i (s.fetched (encode i))
  have hstep : step s = .next t := (step_of_encode hi hp).trans he
  obtain ⟨hphase, -⟩ := step_keeps_ready hstep
  refine ⟨t, hstep, ⟨_, snapshot_of_ready hphase, rfl, rfl⟩, ?_⟩
  rcases run_clock (exec_eq_run i _ ▸ he) with ⟨c, hc, hm, ht, hres, -⟩ | ⟨op, htm, hm, ht, -⟩
  · obtain ⟨hpos, hle⟩ := template_cost_bounds hc
    refine ⟨fun c' hc' => ?_, fun hnone => nomatch hc.symm.trans hnone⟩
    obtain rfl : c = c' := Option.some.inj (hc.symm.trans hc')
    exact ⟨hm, ht, hres, hpos, hle⟩
  · have hnone : (template i).cost = none := by rw [htm, Template.cost]
    exact ⟨fun c hc => (nomatch hnone.symm.trans hc), fun _ => ⟨⟨op, eq_undefined_of_template htm⟩, hm, ht⟩⟩

/-- After reset every register reads zero. -/
@[simp] theorem reg_hostReset (s : State) (r : Reg8) : (hostReset s).reg r = 0 := by
  cases r <;> rfl

/-- Settles O43: a reset core is ready, so the snapshot shows its zeroes, and each pair is made of two zero registers. -/
theorem resetZeroes : Obligations.ResetZeroes := by
  refine fun s => ⟨snapshot_of_ready rfl, fun p => ?_, rfl⟩
  rw [State.pair, reg_hostReset, reg_hostReset]
  rfl

end Sys2Proof.Machine
end
